-- ==== Sys2Proof/Word.lean ====
section
/-! DEFINITION. The word types of the Geode timing core: a register is 16 bits wide (20_memory.md R62), an operation
word 24 bits (30_encoding.md R80), a register address 4 bits, an encoder pin pair 2 bits (00_scope.md R12). -/

namespace Sys2Proof

/-- A register or the data of one bus access: 16 bits (20_memory.md R62). -/
abbrev Word := BitVec 16

/-- An operation word: 24 bits, KIND[23:20], ADDR[19:16], DATA[15:0] (30_encoding.md R80). -/
abbrev OpWord := BitVec 24

/-- A register address: 4 bits (20_memory.md R62). -/
abbrev RegAddr := BitVec 4

/-- An encoder pin pair AB: phase A is bit 1, phase B is bit 0 (00_scope.md R12). -/
abbrev Pins := BitVec 2

end Sys2Proof
end

