-- ==== Sys2Proof/Config.lean ====
section
/-! DEFINITION. The constants that 00_scope.md R5 fixes and the parameters that R6 names. No operation changes a
parameter (10_state.md R22). The functions of the parameters (P, BOUNDARY_DIV, the legality rule R7) are in
Machine/Params.lean. The spec leaves no value free, so no constant here is without a body. -/

namespace Sys2Proof

/-- SUBPULSES_PER_BEAT (00_scope.md R5). -/
def subpulsesPerBeat : Nat := 24

/-- TEMPO_RESET (00_scope.md R5). -/
def tempoReset : Nat := 120

/-- TEMPO_STEP (00_scope.md R5). -/
def tempoStep : Nat := 1

/-- MODE (00_scope.md R6): ACCUM divides TICK events by the live period, FIXED makes every TICK one sub-pulse. -/
inductive Mode where
  | accum
  | fixed
  deriving DecidableEq, Repr

/-- BOUNDARY (00_scope.md R6): one beat, or one measure. -/
inductive Boundary where
  | beat
  | measure
  deriving DecidableEq, Repr

/-- ACC_RESET (00_scope.md R6): what the accumulator keeps when it reaches the threshold. -/
inductive AccReset where
  | zero
  | subtract
  deriving DecidableEq, Repr

/-- The parameters of 00_scope.md R6, under the spec's names. -/
structure Config where
  mode            : Mode
  boundary        : Boundary
  beatsPerMeasure : Nat
  timerHz         : Nat
  tempoMin        : Nat
  tempoMax        : Nat
  accReset        : AccReset
  /-- BASE_ADDRESS: where the platform maps the registers; no rule reads it (20_memory.md R73). -/
  baseAddress     : Nat
  deriving DecidableEq, Repr

/-- The spec's defaults (00_scope.md R6). For the parameters it leaves OPEN: DESIGN CHOICE TIMER_HZ 250000 and
BEATS_PER_MEASURE 4 (the values its vectors use, 95_test_vectors.md) and BASE_ADDRESS 0 (log 2). -/
def Config.standard : Config where
  mode            := .accum
  boundary        := .beat
  beatsPerMeasure := 4
  timerHz         := 250000
  tempoMin        := 20
  tempoMax        := 300
  accReset        := .zero
  baseAddress     := 0

end Sys2Proof
end

