-- ==== Sys2Proof/Syntax.lean ====
section
/-! DEFINITION. The operations of the core, one constructor per row of spec/opcode_table.json (30_encoding.md R91):
RD and WR are one opcode per register address, then TICK, PINS, TXSTEP and RESET. Every operand has exactly the width
its encoding gives it, so every term of Instr is an operation (log 16). -/

namespace Sys2Proof

/-- A transmitter channel: 0 is the display line set, 1 the CV line set (40_bitserial.md R110, 10_state.md R33). -/
inductive ChannelId where
  | display
  | cv
  deriving DecidableEq, Repr

/-- One operation, a row of spec/opcode_table.json. -/
inductive Instr where
  /-- RD.STATUS: bus read of address 0x0. -/
  | rdStatus
  /-- RD.TEMPO: bus read of address 0x1. -/
  | rdTempo
  /-- RD.APPLY: bus read of address 0x2. -/
  | rdApply
  /-- RD.PERIOD: bus read of address 0x3. -/
  | rdPeriod
  /-- RD.SUBPULSE: bus read of address 0x4. -/
  | rdSubpulse
  /-- RD.ACC: bus read of address 0x5. -/
  | rdAcc
  /-- RD.MIDI_PEND: bus read of address 0x6. -/
  | rdMidiPend
  /-- RD.DIR: bus read of address 0x7. -/
  | rdDir
  /-- RD.TX0_DATA: bus read of address 0x8. -/
  | rdTx0Data
  /-- RD.TX1_DATA: bus read of address 0x9. -/
  | rdTx1Data
  /-- RD.TX0_LAST: bus read of address 0xA. -/
  | rdTx0Last
  /-- RD.TX1_LAST: bus read of address 0xB. -/
  | rdTx1Last
  /-- RD.LINES: bus read of address 0xC. -/
  | rdLines
  /-- RD.UNMAPPED_0xD: bus read of address 0xD. -/
  | rdUnmappedD
  /-- RD.UNMAPPED_0xE: bus read of address 0xE. -/
  | rdUnmappedE
  /-- RD.UNMAPPED_0xF: bus read of address 0xF. -/
  | rdUnmappedF
  /-- WR.STATUS: bus write of d to address 0x0. -/
  | wrStatus (d : Word)
  /-- WR.TEMPO: bus write of d to address 0x1. -/
  | wrTempo (d : Word)
  /-- WR.APPLY: bus write of d to address 0x2. -/
  | wrApply (d : Word)
  /-- WR.PERIOD: bus write of d to address 0x3. -/
  | wrPeriod (d : Word)
  /-- WR.SUBPULSE: bus write of d to address 0x4. -/
  | wrSubpulse (d : Word)
  /-- WR.ACC: bus write of d to address 0x5. -/
  | wrAcc (d : Word)
  /-- WR.MIDI_PEND: bus write of d to address 0x6. -/
  | wrMidiPend (d : Word)
  /-- WR.DIR: bus write of d to address 0x7. -/
  | wrDir (d : Word)
  /-- WR.TX0_DATA: bus write of d to address 0x8. -/
  | wrTx0Data (d : Word)
  /-- WR.TX1_DATA: bus write of d to address 0x9. -/
  | wrTx1Data (d : Word)
  /-- WR.TX0_LAST: bus write of d to address 0xA. -/
  | wrTx0Last (d : Word)
  /-- WR.TX1_LAST: bus write of d to address 0xB. -/
  | wrTx1Last (d : Word)
  /-- WR.LINES: bus write of d to address 0xC. -/
  | wrLines (d : Word)
  /-- WR.UNMAPPED_0xD: bus write of d to address 0xD. -/
  | wrUnmappedD (d : Word)
  /-- WR.UNMAPPED_0xE: bus write of d to address 0xE. -/
  | wrUnmappedE (d : Word)
  /-- WR.UNMAPPED_0xF: bus write of d to address 0xF. -/
  | wrUnmappedF (d : Word)
  /-- TICK: one timer event (43_pulse_engine.md R201). -/
  | tick
  /-- PINS: encoder pin change, with the pin pair after it (41_decoder.md R141). -/
  | pins (cur : Pins)
  /-- TXSTEP: one line write of channel c (40_bitserial.md R112). -/
  | txstep (c : ChannelId)
  /-- RESET: reset of the core, with the pin pair sampled (70_reset_and_hazards.md R280). -/
  | reset (ab : Pins)
  deriving DecidableEq, Repr

/-- The mnemonic of the operation's row in spec/opcode_table.json. -/
def mnemonic (i : Instr) : String :=
  match i with
  | .rdStatus => "RD.STATUS"
  | .rdTempo => "RD.TEMPO"
  | .rdApply => "RD.APPLY"
  | .rdPeriod => "RD.PERIOD"
  | .rdSubpulse => "RD.SUBPULSE"
  | .rdAcc => "RD.ACC"
  | .rdMidiPend => "RD.MIDI_PEND"
  | .rdDir => "RD.DIR"
  | .rdTx0Data => "RD.TX0_DATA"
  | .rdTx1Data => "RD.TX1_DATA"
  | .rdTx0Last => "RD.TX0_LAST"
  | .rdTx1Last => "RD.TX1_LAST"
  | .rdLines => "RD.LINES"
  | .rdUnmappedD => "RD.UNMAPPED_0xD"
  | .rdUnmappedE => "RD.UNMAPPED_0xE"
  | .rdUnmappedF => "RD.UNMAPPED_0xF"
  | .wrStatus _ => "WR.STATUS"
  | .wrTempo _ => "WR.TEMPO"
  | .wrApply _ => "WR.APPLY"
  | .wrPeriod _ => "WR.PERIOD"
  | .wrSubpulse _ => "WR.SUBPULSE"
  | .wrAcc _ => "WR.ACC"
  | .wrMidiPend _ => "WR.MIDI_PEND"
  | .wrDir _ => "WR.DIR"
  | .wrTx0Data _ => "WR.TX0_DATA"
  | .wrTx1Data _ => "WR.TX1_DATA"
  | .wrTx0Last _ => "WR.TX0_LAST"
  | .wrTx1Last _ => "WR.TX1_LAST"
  | .wrLines _ => "WR.LINES"
  | .wrUnmappedD _ => "WR.UNMAPPED_0xD"
  | .wrUnmappedE _ => "WR.UNMAPPED_0xE"
  | .wrUnmappedF _ => "WR.UNMAPPED_0xF"
  | .tick => "TICK"
  | .pins _ => "PINS"
  | .txstep _ => "TXSTEP"
  | .reset _ => "RESET"

end Sys2Proof
end

