-- ==== Sys2Proof/WellFormed.lean ====
section
/-! DEFINITION. The format checks on an operation word (30_encoding.md R80, R88): which words spell an operation. They
are written from the list of R88 and not from the decoder, so that the two can be compared. An Instr needs no check of
its own: each operand has its exact width (log 16). -/

namespace Sys2Proof

/-- R88, first condition: KIND is 0x0 or 0x7 to 0xF. -/
def reservedKind (w : OpWord) : Bool := w.extractLsb' 20 4 == 0x0#4 || decide (0x7 ≤ (w.extractLsb' 20 4).toNat)

/-- R88, second condition: an RD with DATA ≠ 0. -/
def rdWithData (w : OpWord) : Bool := w.extractLsb' 20 4 == 0x1#4 && w.extractLsb' 0 16 != 0#16

/-- R88, third condition: a TICK, PINS, TXSTEP or RESET with ADDR ≠ 0. -/
def eventWithAddr (w : OpWord) : Bool :=
  [0x3#4, 0x4#4, 0x5#4, 0x6#4].contains (w.extractLsb' 20 4) && w.extractLsb' 16 4 != 0#4

/-- R88, fourth condition: a TICK with DATA ≠ 0. -/
def tickWithData (w : OpWord) : Bool := w.extractLsb' 20 4 == 0x3#4 && w.extractLsb' 0 16 != 0#16

/-- R88, fifth condition: a PINS or RESET with DATA[15:2] ≠ 0. -/
def pinsWithHighBits (w : OpWord) : Bool :=
  [0x4#4, 0x6#4].contains (w.extractLsb' 20 4) && w.extractLsb' 2 14 != 0#14

/-- R88, sixth condition: a TXSTEP with DATA[15:1] ≠ 0. -/
def txstepWithHighBits (w : OpWord) : Bool :=
  w.extractLsb' 20 4 == 0x5#4 && w.extractLsb' 1 15 != 0#15

/-- A word is well formed when none of the six conditions of 30_encoding.md R88 holds. -/
def wellFormedWord (w : OpWord) : Bool :=
  !(reservedKind w || rdWithData w || eventWithAddr w || tickWithData w || pinsWithHighBits w || txstepWithHighBits w)

end Sys2Proof
end

