-- ==== Sys2Proof/Decode.lean ====
section
/-! DEFINITION. The decoder of 30_encoding.md R89, total on 24-bit words, which refuses by the name of the R88
condition that holds; then the encoder, written from the same formats (R82 to R87, R95), the pseudo-operations of R97,
the rows of spec/opcode_table.json, and the host's decodeTableWord. -/

namespace Sys2Proof

/-- Why a word spells no operation (30_encoding.md R88). Where several conditions hold, the name given is the first
in the order of the fields KIND, ADDR, DATA; the spec names only the refusal, not one reason (log 12). -/
inductive RefusedWord where
  /-- KIND is 0x0 or 0x7 to 0xF. -/
  | reservedKind
  /-- An RD with DATA ≠ 0. -/
  | rdDataNotZero
  /-- A TICK, PINS, TXSTEP or RESET with ADDR ≠ 0. -/
  | eventAddrNotZero
  /-- A TICK with DATA ≠ 0. -/
  | tickDataNotZero
  /-- A PINS or RESET with DATA[15:2] ≠ 0. -/
  | pinBitsNotZero
  /-- A TXSTEP with DATA[15:1] ≠ 0. -/
  | txstepBitsNotZero
  deriving DecidableEq, Repr

/-- KIND, bits 23:20 (30_encoding.md R80). -/
def kindOf (w : OpWord) : BitVec 4 := w.extractLsb' 20 4

/-- ADDR, bits 19:16 (30_encoding.md R80). -/
def addrOf (w : OpWord) : RegAddr := w.extractLsb' 16 4

/-- DATA, bits 15:0 (30_encoding.md R80). -/
def dataOf (w : OpWord) : Word := w.extractLsb' 0 16

/-- The decoder's result: one operation, or a refusal (30_encoding.md R89). -/
inductive Decoded where
  | operation (i : Instr)
  | refused (why : RefusedWord)
  deriving DecidableEq, Repr

/-- The operation that reads address a (30_encoding.md R91). The last arm is the sixteenth address, 0xF. -/
def rdInstr (a : RegAddr) : Instr :=
  match a with
  | 0x0#4 => .rdStatus
  | 0x1#4 => .rdTempo
  | 0x2#4 => .rdApply
  | 0x3#4 => .rdPeriod
  | 0x4#4 => .rdSubpulse
  | 0x5#4 => .rdAcc
  | 0x6#4 => .rdMidiPend
  | 0x7#4 => .rdDir
  | 0x8#4 => .rdTx0Data
  | 0x9#4 => .rdTx1Data
  | 0xA#4 => .rdTx0Last
  | 0xB#4 => .rdTx1Last
  | 0xC#4 => .rdLines
  | 0xD#4 => .rdUnmappedD
  | 0xE#4 => .rdUnmappedE
  | _ => .rdUnmappedF

/-- The operation that writes x to address a (30_encoding.md R91). The last arm is the sixteenth address, 0xF. -/
def wrInstr (a : RegAddr) (x : Word) : Instr :=
  match a with
  | 0x0#4 => .wrStatus x
  | 0x1#4 => .wrTempo x
  | 0x2#4 => .wrApply x
  | 0x3#4 => .wrPeriod x
  | 0x4#4 => .wrSubpulse x
  | 0x5#4 => .wrAcc x
  | 0x6#4 => .wrMidiPend x
  | 0x7#4 => .wrDir x
  | 0x8#4 => .wrTx0Data x
  | 0x9#4 => .wrTx1Data x
  | 0xA#4 => .wrTx0Last x
  | 0xB#4 => .wrTx1Last x
  | 0xC#4 => .wrLines x
  | 0xD#4 => .wrUnmappedD x
  | 0xE#4 => .wrUnmappedE x
  | _ => .wrUnmappedF x

/-- The channel that DATA[0] of a TXSTEP selects (30_encoding.md R86). -/
def channelOfBit (b : BitVec 1) : ChannelId :=
  if b = 0#1 then .display else .cv

/-- DATA[0] of a TXSTEP of channel c (30_encoding.md R86). -/
def bitOfChannel (c : ChannelId) : BitVec 1 :=
  match c with
  | .display => 0#1
  | .cv => 1#1

/-- The decoder (30_encoding.md R89, R90): it reads no state. -/
def decode (w : OpWord) : Decoded :=
  match kindOf w with
  | 0x1#4 => if dataOf w = 0#16 then .operation (rdInstr (addrOf w)) else .refused .rdDataNotZero
  | 0x2#4 => .operation (wrInstr (addrOf w) (dataOf w))
  | 0x3#4 =>
    if addrOf w ≠ 0#4 then .refused .eventAddrNotZero
    else if dataOf w ≠ 0#16 then .refused .tickDataNotZero
    else .operation .tick
  | 0x4#4 =>
    if addrOf w ≠ 0#4 then .refused .eventAddrNotZero
    else if w.extractLsb' 2 14 ≠ 0#14 then .refused .pinBitsNotZero
    else .operation (.pins (w.extractLsb' 0 2))
  | 0x5#4 =>
    if addrOf w ≠ 0#4 then .refused .eventAddrNotZero
    else if w.extractLsb' 1 15 ≠ 0#15 then .refused .txstepBitsNotZero
    else .operation (.txstep (channelOfBit (w.extractLsb' 0 1)))
  | 0x6#4 =>
    if addrOf w ≠ 0#4 then .refused .eventAddrNotZero
    else if w.extractLsb' 2 14 ≠ 0#14 then .refused .pinBitsNotZero
    else .operation (.reset (w.extractLsb' 0 2))
  | _ => .refused .reservedKind

/-- The word with the fields KIND, ADDR and DATA (30_encoding.md R80). -/
def opWord (kind : BitVec 4) (addr : RegAddr) (data : Word) : OpWord :=
  kind ++ addr ++ data

/-- The operation word of an operation (30_encoding.md R82 to R87, R95). -/
def encode (i : Instr) : OpWord :=
  match i with
  | .rdStatus => opWord 0x1#4 0x0#4 0#16
  | .rdTempo => opWord 0x1#4 0x1#4 0#16
  | .rdApply => opWord 0x1#4 0x2#4 0#16
  | .rdPeriod => opWord 0x1#4 0x3#4 0#16
  | .rdSubpulse => opWord 0x1#4 0x4#4 0#16
  | .rdAcc => opWord 0x1#4 0x5#4 0#16
  | .rdMidiPend => opWord 0x1#4 0x6#4 0#16
  | .rdDir => opWord 0x1#4 0x7#4 0#16
  | .rdTx0Data => opWord 0x1#4 0x8#4 0#16
  | .rdTx1Data => opWord 0x1#4 0x9#4 0#16
  | .rdTx0Last => opWord 0x1#4 0xA#4 0#16
  | .rdTx1Last => opWord 0x1#4 0xB#4 0#16
  | .rdLines => opWord 0x1#4 0xC#4 0#16
  | .rdUnmappedD => opWord 0x1#4 0xD#4 0#16
  | .rdUnmappedE => opWord 0x1#4 0xE#4 0#16
  | .rdUnmappedF => opWord 0x1#4 0xF#4 0#16
  | .wrStatus d => opWord 0x2#4 0x0#4 d
  | .wrTempo d => opWord 0x2#4 0x1#4 d
  | .wrApply d => opWord 0x2#4 0x2#4 d
  | .wrPeriod d => opWord 0x2#4 0x3#4 d
  | .wrSubpulse d => opWord 0x2#4 0x4#4 d
  | .wrAcc d => opWord 0x2#4 0x5#4 d
  | .wrMidiPend d => opWord 0x2#4 0x6#4 d
  | .wrDir d => opWord 0x2#4 0x7#4 d
  | .wrTx0Data d => opWord 0x2#4 0x8#4 d
  | .wrTx1Data d => opWord 0x2#4 0x9#4 d
  | .wrTx0Last d => opWord 0x2#4 0xA#4 d
  | .wrTx1Last d => opWord 0x2#4 0xB#4 d
  | .wrLines d => opWord 0x2#4 0xC#4 d
  | .wrUnmappedD d => opWord 0x2#4 0xD#4 d
  | .wrUnmappedE d => opWord 0x2#4 0xE#4 d
  | .wrUnmappedF d => opWord 0x2#4 0xF#4 d
  | .tick => opWord 0x3#4 0x0#4 0#16
  | .pins cur => opWord 0x4#4 0x0#4 (cur.setWidth 16)
  | .txstep c => opWord 0x5#4 0x0#4 ((bitOfChannel c).setWidth 16)
  | .reset ab => opWord 0x6#4 0x0#4 (ab.setWidth 16)

/-- TICKN n: n copies of TICK (30_encoding.md R97). -/
def tickN (n : Nat) : List OpWord := List.replicate n (encode .tick)

/-- ROTL: one clean left rest-to-rest cycle (30_encoding.md R97). -/
def rotL : List OpWord := [encode (.pins 0b10#2), encode (.pins 0b11#2), encode (.pins 0b01#2), encode (.pins 0b00#2)]

/-- ROTR: one clean right rest-to-rest cycle (30_encoding.md R97). -/
def rotR : List OpWord := [encode (.pins 0b01#2), encode (.pins 0b11#2), encode (.pins 0b10#2), encode (.pins 0b00#2)]

/-- The write that starts word x on channel c (40_bitserial.md R111). -/
def wrTxData (c : ChannelId) (x : Word) : Instr :=
  match c with
  | .display => .wrTx0Data x
  | .cv => .wrTx1Data x

/-- TX c, x: the start write, then 50 TXSTEPs (30_encoding.md R97). -/
def tx (c : ChannelId) (x : Word) : List OpWord :=
  encode (wrTxData c x) :: List.replicate 50 (encode (.txstep c))

/-- TAKE_APPLY: RD DIR, then WR APPLY of the data x that the read returned (30_encoding.md R97). -/
def takeApply (x : Word) : List OpWord := [encode .rdDir, encode (.wrApply x)]

/-- A row of spec/opcode_table.json: a word w is the row's when w AND mask = pattern. -/
structure OpcodeRow where
  name    : String
  pattern : OpWord
  mask    : OpWord
  deriving DecidableEq, Repr

/-- The RD rows of spec/opcode_table.json. -/
def rdRows : List OpcodeRow := [
  ⟨"RD.STATUS", 0x100000#24, 0xFFFFFF#24⟩,
  ⟨"RD.TEMPO", 0x110000#24, 0xFFFFFF#24⟩,
  ⟨"RD.APPLY", 0x120000#24, 0xFFFFFF#24⟩,
  ⟨"RD.PERIOD", 0x130000#24, 0xFFFFFF#24⟩,
  ⟨"RD.SUBPULSE", 0x140000#24, 0xFFFFFF#24⟩,
  ⟨"RD.ACC", 0x150000#24, 0xFFFFFF#24⟩,
  ⟨"RD.MIDI_PEND", 0x160000#24, 0xFFFFFF#24⟩,
  ⟨"RD.DIR", 0x170000#24, 0xFFFFFF#24⟩,
  ⟨"RD.TX0_DATA", 0x180000#24, 0xFFFFFF#24⟩,
  ⟨"RD.TX1_DATA", 0x190000#24, 0xFFFFFF#24⟩,
  ⟨"RD.TX0_LAST", 0x1A0000#24, 0xFFFFFF#24⟩,
  ⟨"RD.TX1_LAST", 0x1B0000#24, 0xFFFFFF#24⟩,
  ⟨"RD.LINES", 0x1C0000#24, 0xFFFFFF#24⟩,
  ⟨"RD.UNMAPPED_0xD", 0x1D0000#24, 0xFFFFFF#24⟩,
  ⟨"RD.UNMAPPED_0xE", 0x1E0000#24, 0xFFFFFF#24⟩,
  ⟨"RD.UNMAPPED_0xF", 0x1F0000#24, 0xFFFFFF#24⟩]

/-- The WR rows of spec/opcode_table.json. -/
def wrRows : List OpcodeRow := [
  ⟨"WR.STATUS", 0x200000#24, 0xFF0000#24⟩,
  ⟨"WR.TEMPO", 0x210000#24, 0xFF0000#24⟩,
  ⟨"WR.APPLY", 0x220000#24, 0xFF0000#24⟩,
  ⟨"WR.PERIOD", 0x230000#24, 0xFF0000#24⟩,
  ⟨"WR.SUBPULSE", 0x240000#24, 0xFF0000#24⟩,
  ⟨"WR.ACC", 0x250000#24, 0xFF0000#24⟩,
  ⟨"WR.MIDI_PEND", 0x260000#24, 0xFF0000#24⟩,
  ⟨"WR.DIR", 0x270000#24, 0xFF0000#24⟩,
  ⟨"WR.TX0_DATA", 0x280000#24, 0xFF0000#24⟩,
  ⟨"WR.TX1_DATA", 0x290000#24, 0xFF0000#24⟩,
  ⟨"WR.TX0_LAST", 0x2A0000#24, 0xFF0000#24⟩,
  ⟨"WR.TX1_LAST", 0x2B0000#24, 0xFF0000#24⟩,
  ⟨"WR.LINES", 0x2C0000#24, 0xFF0000#24⟩,
  ⟨"WR.UNMAPPED_0xD", 0x2D0000#24, 0xFF0000#24⟩,
  ⟨"WR.UNMAPPED_0xE", 0x2E0000#24, 0xFF0000#24⟩,
  ⟨"WR.UNMAPPED_0xF", 0x2F0000#24, 0xFF0000#24⟩]

/-- The event rows of spec/opcode_table.json. -/
def eventRows : List OpcodeRow := [
  ⟨"TICK", 0x300000#24, 0xFFFFFF#24⟩,
  ⟨"PINS", 0x400000#24, 0xFFFFFC#24⟩,
  ⟨"TXSTEP", 0x500000#24, 0xFFFFFE#24⟩,
  ⟨"RESET", 0x600000#24, 0xFFFFFC#24⟩]

/-- The 36 rows of spec/opcode_table.json. -/
def opcodeTable : List OpcodeRow := rdRows ++ wrRows ++ eventRows

/-- The word that the host numbers by nbits and w: the bits of w below nbits, every other bit 0. -/
def tableWord (nbits w : Nat) : OpWord := BitVec.ofNat 24 (w % 2 ^ nbits)

/-- The operation the decoder reads from the word of `tableWord`, none where it refuses. An operation word is one word
of 24 bits (30_encoding.md R98), so a longer one is none. -/
def decodeTableWord (nbits w : Nat) : Option Instr :=
  if nbits ≤ 24 then
    match decode (tableWord nbits w) with
    | .operation i => some i
    | .refused _ => none
  else none

end Sys2Proof
end

