-- ==== Sys2Proof/Machine/State.lean ====
section
/-! DEFINITION. The state of the core: every element of 10_state.md R22, the model-only elements FAULT and RESET_SEEN
of R38, the parameters (00_scope.md R6), and the run's input and observation (70_reset_and_hazards.md R292). There is
no memory and no program counter (10_state.md R20, 20_memory.md R62). -/

namespace Sys2Proof.Machine

/-- PHASE (10_state.md R29; log 17). -/
inductive Phase where
  | withinBeat
  | atBeatBoundary
  deriving DecidableEq, Repr

/-- DEC_TRACK (10_state.md R31; log 17). -/
inductive Track where
  | idle
  | trackL
  | trackR
  | trackX
  deriving DecidableEq, Repr

/-- A direction: NONE, LEFT or RIGHT (00_scope.md R12); the code 0b11 never occurs in DIR (10_state.md R32; log 17). -/
inductive Direction where
  | none
  | left
  | right
  deriving DecidableEq, Repr

/-- The fault codes of 60_exceptions.md R250, which FAULT records; they do not stop the model (log 7). -/
inductive FaultCode where
  | busUnmapped
  | busWriteRo
  | busReadWo
  | applyReserved
  | txBusy
  | noReset
  deriving DecidableEq, Repr

/-- What FAULT holds when it is not none: a code and the operation word that raised it (10_state.md R38). -/
structure FaultRecord where
  code : FaultCode
  word : OpWord
  deriving DecidableEq, Repr

/-- One transmitter channel, TX[c] with its three lines (10_state.md R33 to R37). -/
structure Channel where
  /-- TX[c].BUSY (R33). -/
  busy  : Bool
  /-- TX[c].POS (R34), 6 bits, 0..49. -/
  pos   : BitVec 6
  /-- TX[c].SHREG (R35). -/
  shreg : Word
  /-- TX[c].LAST (R36). -/
  last  : Word
  /-- CLK[c] (R37). -/
  clk   : Bool
  /-- DAT[c] (R37). -/
  dat   : Bool
  /-- LAT[c] (R37). -/
  lat   : Bool
  deriving DecidableEq, Repr

/-- The state of the core. -/
structure State where
  /-- The parameters; no operation changes them (10_state.md R22; log 1). -/
  cfg       : Config
  /-- TEMPO (R23). -/
  tempo     : Word
  /-- SUBPULSE (R24). -/
  subpulse  : Word
  /-- ACC (R25). -/
  acc       : Word
  /-- MIDI_PEND (R26). -/
  midiPend  : Word
  /-- BEAT_IND (R27). -/
  beatInd   : Bool
  /-- GATE (R28). -/
  gate      : Bool
  /-- PHASE (R29). -/
  phase     : Phase
  /-- DEC_PREV (R30). -/
  decPrev   : Pins
  /-- DEC_TRACK (R31). -/
  decTrack  : Track
  /-- DIR (R32). -/
  dir       : Direction
  /-- TX[0], CLK[0], DAT[0], LAT[0]: the display channel (R33 to R37). -/
  tx0       : Channel
  /-- TX[1], CLK[1], DAT[1], LAT[1]: the CV channel (R33 to R37). -/
  tx1       : Channel
  /-- FAULT (R38). -/
  fault     : Option FaultRecord
  /-- RESET_SEEN (R38). -/
  resetSeen : Bool
  /-- The operation words still to be taken, the next one first (70_reset_and_hazards.md R292; log 5). -/
  input     : List OpWord
  /-- The values that the RD operations returned, in order (70_reset_and_hazards.md R292; log 6). -/
  returned  : List Word
  deriving DecidableEq, Repr

/-- Why a step stops without a next state and without a refusal. Neither is a FAULT of the spec (log 7). -/
inductive Fault where
  /-- Raised by TXSTEP c after a RESET while TX[c].BUSY = 0: the channel has no step (40_bitserial.md R112,
  93_implementation_defined.md U9 `stuck`). Safe: the model stops where the spec gives no step (log 8). -/
  | channelIdle (c : ChannelId)
  /-- Raised by step when no operation word is left: the run has ended (70_reset_and_hazards.md R292). Safe: nothing
  is claimed beyond the end of the run (log 9). -/
  | runEnded
  deriving DecidableEq, Repr

/-- Why the model refuses. -/
inductive Refusal where
  /-- Raised by exec for an operation that has no meaning in the model. Safe. No arm of exec uses it now. -/
  | notModelled (mnemonic : String)
  /-- Raised by step for a word that spells no operation (30_encoding.md R88). Safe: the spec gives it no step. -/
  | notAnOperation (why : RefusedWord) (word : OpWord)
  /-- Raised by every operation under a parameter set that breaks 00_scope.md R7. Safe: no operation has a meaning
  under it (log 10). -/
  | illegalParameters
  deriving DecidableEq, Repr

/-- A transmitter channel after reset: idle, LAT high (10_state.md R53). -/
def Channel.reset : Channel where
  busy  := false
  pos   := 0#6
  shreg := 0x0000#16
  last  := 0x0000#16
  clk   := false
  dat   := false
  lat   := true

/-- The state right after the first RESET of a run with the parameters c, where the encoder pins are ab
(10_state.md R53, 70_reset_and_hazards.md R280), with no word left to take and no value returned. -/
def State.afterReset (c : Config) (ab : Pins) : State where
  cfg       := c
  tempo     := BitVec.ofNat 16 tempoReset
  subpulse  := 0#16
  acc       := 0#16
  midiPend  := 0#16
  beatInd   := false
  gate      := false
  phase     := .withinBeat
  decPrev   := ab
  decTrack  := if ab = 0b00#2 then .idle else .trackX
  dir       := .none
  tx0       := Channel.reset
  tx1       := Channel.reset
  fault     := none
  resetSeen := true
  input     := []
  returned  := []

/-- The start of a run over the operation words ws, before any RESET (70_reset_and_hazards.md R281): RESET_SEEN = 0
and FAULT = none. Nothing of the core is defined there; DESIGN CHOICE: the other fields hold what RESET 00 would give
them, and no operation but RESET, which overwrites them, can be carried out (log 4). -/
def State.startOfRun (c : Config) (ws : List OpWord) : State :=
  { State.afterReset c 0b00#2 with resetSeen := false, input := ws }

/-- The machine right after reset: the spec's "from reset" (95_test_vectors.md), with pins 00 (DESIGN CHOICE, log 3)
and the standard parameters (log 2). -/
def State.reset : State := State.afterReset Config.standard 0b00#2

end Sys2Proof.Machine
end

