-- ==== Sys2Proof/Machine/Operands.lean ====
section
/-! DEFINITION. The operand forms (30_encoding.md R90): zero extension of a narrow field on the bus, the direction code
that WR.APPLY takes (30_encoding.md R93), the transition mask of a pin pair (41_decoder.md R140), and the bit of a word
that a position of the line schedule sends (40_bitserial.md R112). -/

namespace Sys2Proof.Machine

/-- zext_16(v): a field narrower than 16 bits as bus data (30_encoding.md R90). -/
def zext16 (v : BitVec n) : Word := v.setWidth 16

/-- The 2-bit code of a direction (00_scope.md R12). -/
def dirCode (d : Direction) : BitVec 2 :=
  match d with
  | .none => 0b00#2
  | .left => 0b01#2
  | .right => 0b10#2

/-- The direction that WR.APPLY reads from its data: the code DATA[1:0] with DATA[15:2] = 0; no direction for the
reserved values, the code 0b11 or a nonzero DATA[15:2] (30_encoding.md R93, 10_state.md R42). -/
def applyDirection (x : Word) : Option Direction :=
  if x.extractLsb' 2 14 ≠ 0#14 then Option.none
  else if x.extractLsb' 0 2 = 0b00#2 then some .none
  else if x.extractLsb' 0 2 = 0b01#2 then some .left
  else if x.extractLsb' 0 2 = 0b10#2 then some .right
  else Option.none

/-- The transition mask m = cur XOR DEC_PREV: bit 1 when A changed, bit 0 when B changed (41_decoder.md R140). -/
def transitionMask (cur prev : Pins) : Pins := cur ^^^ prev

/-- The bit w[15 − j] that the data write at position p = 1 + 3j of the schedule sends, for 1 ≤ p ≤ 48: MSB first
(40_bitserial.md R112, R113). -/
def scheduledBit (w : Word) (p : Nat) : Bool := w.getLsbD (15 - (p - 1) / 3)

end Sys2Proof.Machine
end

