-- ==== Sys2Proof/Machine/Flags.lean ====
section
/-! DEFINITION. The flag computations and the registers that gather flags: BEAT_IND, GATE and PHASE at a sub-pulse
(43_pulse_engine.md R206), the STATUS word (10_state.md R40, 44_status.md R230) and the LINES word (10_state.md R50,
40_bitserial.md R117). -/

namespace Sys2Proof.Machine

/-- PHASE as a bit: 0 is WithinBeat, 1 is AtBeatBoundary (10_state.md R29). -/
def phaseBit (p : Phase) : Bool :=
  match p with
  | .withinBeat => false
  | .atBeatBoundary => true

/-- DEC_TRACK as its 2-bit code (10_state.md R31). -/
def trackCode (t : Track) : BitVec 2 :=
  match t with
  | .idle => 0b00#2
  | .trackL => 0b01#2
  | .trackR => 0b10#2
  | .trackX => 0b11#2

/-- The MODE bit of STATUS, hardwired to the parameter (44_status.md R231). -/
def modeBit (m : Mode) : Bool :=
  match m with
  | .accum => false
  | .fixed => true

/-- The BOUNDARY bit of STATUS, hardwired to the parameter (44_status.md R231). -/
def boundaryBit (b : Boundary) : Bool :=
  match b with
  | .beat => false
  | .measure => true

/-- The flags at a sub-pulse: at a boundary BEAT_IND flips, GATE becomes 1 and PHASE AtBeatBoundary; at any other
sub-pulse GATE becomes 0 and PHASE WithinBeat, and BEAT_IND stays (43_pulse_engine.md R206). -/
def subpulseFlags (atBoundary : Bool) (s : State) : State :=
  if atBoundary then { s with beatInd := !s.beatInd, gate := true, phase := .atBeatBoundary }
  else { s with gate := false, phase := .withinBeat }

/-- STATUS: bits 12 BOUNDARY, 11 MODE, 10:9 DIR, 8:7 DEC_PREV, 6:5 DEC_TRACK, 4 TX1_BUSY, 3 TX0_BUSY, 2 PHASE,
1 GATE, 0 BEAT_IND; bits 15:13 are 0 (44_status.md R230). -/
def statusWord (s : State) : Word :=
  zext16 (BitVec.ofBool (boundaryBit s.cfg.boundary) ++ BitVec.ofBool (modeBit s.cfg.mode) ++ dirCode s.dir
    ++ s.decPrev ++ trackCode s.decTrack ++ BitVec.ofBool s.tx1.busy ++ BitVec.ofBool s.tx0.busy
    ++ BitVec.ofBool (phaseBit s.phase) ++ BitVec.ofBool s.gate ++ BitVec.ofBool s.beatInd)

/-- LINES: LAT[1], DAT[1], CLK[1], 0, LAT[0], DAT[0], CLK[0], from bit 6 to bit 0 (40_bitserial.md R117). -/
def linesWord (s : State) : Word :=
  zext16 (BitVec.ofBool s.tx1.lat ++ BitVec.ofBool s.tx1.dat ++ BitVec.ofBool s.tx1.clk ++ 0#1
    ++ BitVec.ofBool s.tx0.lat ++ BitVec.ofBool s.tx0.dat ++ BitVec.ofBool s.tx0.clk)

end Sys2Proof.Machine
end

