-- ==== Sys2Proof/Machine/Params.lean ====
section
/-! DEFINITION. The functions of the parameters: the period divider P (42_tempo.md R170), the boundary divisor
(43_pulse_engine.md R200) and the legality of a parameter set (00_scope.md R7). -/

namespace Sys2Proof.Machine

/-- P(t) = (60 * TIMER_HZ) div (t * 24), rounded once, toward zero (42_tempo.md R170). The divisor is
SUBPULSES_PER_BEAT whatever the boundary policy (90_conflicts.md C2). -/
def period (c : Config) (t : Nat) : Nat := 60 * c.timerHz / (t * subpulsesPerBeat)

/-- BOUNDARY_DIV (43_pulse_engine.md R200). -/
def boundaryDiv (c : Config) : Nat :=
  match c.boundary with
  | .beat => subpulsesPerBeat
  | .measure => subpulsesPerBeat * c.beatsPerMeasure

/-- Condition 4 of 00_scope.md R7, which binds BEATS_PER_MEASURE only where BOUNDARY = MEASURE. -/
def legalMeasure (c : Config) : Bool :=
  match c.boundary with
  | .beat => true
  | .measure => decide (1 ≤ c.beatsPerMeasure ∧ subpulsesPerBeat * c.beatsPerMeasure ≤ 65535)

/-- The legality of a parameter set: the four conditions of 00_scope.md R7. -/
def legalConfig (c : Config) : Bool :=
  decide (1 ≤ c.tempoMin ∧ c.tempoMin ≤ tempoReset ∧ tempoReset ≤ c.tempoMax ∧ c.tempoMax ≤ 65535)
    && decide (period c c.tempoMin ≤ 65535)
    && decide (1 ≤ period c c.tempoMax)
    && legalMeasure c

end Sys2Proof.Machine
end

