-- ==== Sys2Proof/Machine/Ops.lean ====
section
/-! DEFINITION. The named operations that the meanings share: taking the next operation word, the check that a
parameter set is legal and that a RESET has occurred, raising a fault, returning bus data, the two transmitter
channels, and the reset of the core. -/

namespace Sys2Proof.Machine

/-- What exec answers. -/
abbrev Result := Host.Outcome State Fault Refusal

/-- Taking the next operation word from the run's sequence (70_reset_and_hazards.md R292): the word, and the state
without it; none when the sequence is used up. -/
def takeWord (s : State) : Option (OpWord × State) :=
  match s.input with
  | [] => none
  | w :: ws => some (w, { s with input := ws })

/-- Placing a word so that it is taken next. -/
def placeWord (w : OpWord) (s : State) : State := { s with input := w :: s.input }

/-- RAISING A FAULT, the core's only exception (60_exceptions.md R250, R251, R253): it writes FAULT, with the code and
the faulting operation word, and nothing else. A fault already recorded is kept (R252). -/
def raiseFault (code : FaultCode) (w : OpWord) (s : State) : State :=
  match s.fault with
  | some _ => s
  | none => { s with fault := some ⟨code, w⟩ }

/-- No operation has a meaning under an illegal parameter set (00_scope.md R7). -/
def underLegal (s : State) (k : Result) : Result :=
  if legalConfig s.cfg then k else .refused .illegalParameters

/-- The start of every operation but RESET: under a legal parameter set, it faults with NO_RESET until the first
RESET (70_reset_and_hazards.md R281), before any other fault condition (60_exceptions.md R254). -/
def onceReset (i : Instr) (s : State) (k : Result) : Result :=
  underLegal s (if s.resetSeen then k else .next (raiseFault .noReset (encode i) s))

/-- An operation that the spec gives no meaning but a fault: the illegal bus accesses (44_status.md R232 to R234). -/
def alwaysFaults (code : FaultCode) (i : Instr) (s : State) : Result :=
  onceReset i s (.next (raiseFault code (encode i) s))

/-- `return d`: the data that a bus read hands back to the host (00_scope.md R10), added to the list of the values
that the run's RD operations returned (70_reset_and_hazards.md R292). -/
def busReturn (x : Word) (s : State) : State := { s with returned := s.returned ++ [x] }

/-- TX[c] with its lines. -/
def channel (s : State) (c : ChannelId) : Channel :=
  match c with
  | .display => s.tx0
  | .cv => s.tx1

/-- The state with TX[c] and its lines replaced; the other channel stays (40_bitserial.md R110). -/
def setChannel (c : ChannelId) (ch : Channel) (s : State) : State :=
  match c with
  | .display => { s with tx0 := ch }
  | .cv => { s with tx1 := ch }

/-- A channel as RESET leaves it (70_reset_and_hazards.md R280). -/
def idleChannel : Channel :=
  { busy := false, pos := 0#6, shreg := 0x0000#16, last := 0x0000#16, clk := false, dat := false, lat := true }

/-- The effect of RESET with the pins ab (70_reset_and_hazards.md R280): every element of 10_state.md R22 and
RESET_SEEN; FAULT and the parameters keep their values. -/
def resetCore (ab : Pins) (s : State) : State :=
  { s with
    tempo     := BitVec.ofNat 16 tempoReset
    acc       := 0#16
    subpulse  := 0#16
    midiPend  := 0#16
    beatInd   := false
    gate      := false
    phase     := .withinBeat
    decPrev   := ab
    decTrack  := if ab = 0b00#2 then .idle else .trackX
    dir       := .none
    tx0       := idleChannel
    tx1       := idleChannel
    resetSeen := true }

end Sys2Proof.Machine
end

