-- ==== Sys2Proof/Machine/BitSerial.lean ====
section
/-! DEFINITION. The bit-serial transmitter (40_bitserial.md): WR.TX0_DATA, WR.TX1_DATA, TXSTEP, RD.TX0_LAST,
RD.TX1_LAST, RD.LINES. -/

namespace Sys2Proof.Machine

/-- A channel on which word w has just been started: no line changes, LAST stays (40_bitserial.md R111). -/
def startWord (w : Word) (ch : Channel) : Channel := { ch with shreg := w, pos := 0#6, busy := true }

/-- The line write of position p, 1 ≤ p ≤ 48: DAT, then CLK high, then CLK low, for each bit (40_bitserial.md R112).
-/
def bitWrite (p : Nat) (ch : Channel) : Channel :=
  match (p - 1) % 3 with
  | 0 => { ch with dat := scheduledBit ch.shreg p }
  | 1 => { ch with clk := true }
  | _ => { ch with clk := false }

/-- One line write of a busy channel, the one at position POS of the schedule (40_bitserial.md R112, R113, R115). -/
def lineWrite (ch : Channel) : Channel :=
  if ch.pos.toNat = 0 then { ch with lat := false, pos := 1#6 }
  else if ch.pos.toNat ≤ 48 then { bitWrite ch.pos.toNat ch with pos := BitVec.ofNat 6 (ch.pos.toNat + 1) }
  else { ch with lat := true, last := ch.shreg, busy := false, pos := 0#6 }

/-- `transmit(w)` on channel c, by the operation i: TX_BUSY when the channel is still sending (40_bitserial.md R111).
-/
def transmit (i : Instr) (c : ChannelId) (w : Word) (s : State) : Result :=
  onceReset i s
    (if (channel s c).busy then .next (raiseFault .txBusy (encode i) s)
     else .next (setChannel c (startWord w (channel s c)) s))

/-- WR.TX0_DATA (40_bitserial.md R111). -/
def execWrTx0Data (d : Word) (s : State) : Result := transmit (.wrTx0Data d) .display d s

/-- WR.TX1_DATA (40_bitserial.md R111). -/
def execWrTx1Data (d : Word) (s : State) : Result := transmit (.wrTx1Data d) .cv d s

/-- TXSTEP c: one line write when the channel is busy; no step when it is idle (40_bitserial.md R112; log 8). -/
def execTxstep (c : ChannelId) (s : State) : Result :=
  onceReset (.txstep c) s
    (if (channel s c).busy then .next (setChannel c (lineWrite (channel s c)) s) else .fault (.channelIdle c))

/-- RD.TX0_LAST (40_bitserial.md R116). -/
def execRdTx0Last (s : State) : Result := onceReset .rdTx0Last s (.next (busReturn s.tx0.last s))

/-- RD.TX1_LAST (40_bitserial.md R116). -/
def execRdTx1Last (s : State) : Result := onceReset .rdTx1Last s (.next (busReturn s.tx1.last s))

/-- RD.LINES (40_bitserial.md R117). -/
def execRdLines (s : State) : Result := onceReset .rdLines s (.next (busReturn (linesWord s) s))

end Sys2Proof.Machine
end

