-- ==== Sys2Proof/Machine/Pulse.lean ====
section
/-! DEFINITION. The pulse-counter engine (43_pulse_engine.md): TICK, RD.SUBPULSE, RD.ACC, RD.MIDI_PEND. -/

namespace Sys2Proof.Machine

/-- SUBPULSE after a sub-pulse: 0 at the boundary, else one more (43_pulse_engine.md R202). -/
def nextSubpulse (atBoundary : Bool) (c : Nat) : Word := if atBoundary then 0#16 else BitVec.ofNat 16 c

/-- SUBPULSE_STEP: one sub-pulse (43_pulse_engine.md R202, R205, R206). MIDI_PEND wraps modulo 2^16. -/
def subpulseStep (s : State) : State :=
  let c := s.subpulse.toNat + 1
  let atBoundary := decide (c = boundaryDiv s.cfg)
  subpulseFlags atBoundary
    { s with midiPend := BitVec.ofNat 16 ((s.midiPend.toNat + 1) % 65536), subpulse := nextSubpulse atBoundary c }

/-- What the accumulator keeps at the threshold p when the count is a: ACC_RESET (43_pulse_engine.md R203). -/
def accAtThreshold (r : AccReset) (a p : Nat) : Word :=
  match r with
  | .zero => 0#16
  | .subtract => BitVec.ofNat 16 (a - p)

/-- TICK with MODE = ACCUM: count in ACC, and a sub-pulse when the count reaches P(TEMPO) of the live TEMPO
(43_pulse_engine.md R201, R203). -/
def accumTick (s : State) : State :=
  let a := s.acc.toNat + 1
  let p := period s.cfg s.tempo.toNat
  if p ≤ a then subpulseStep { s with acc := accAtThreshold s.cfg.accReset a p }
  else { s with acc := BitVec.ofNat 16 a }

/-- One timer event: a sub-pulse with MODE = FIXED (43_pulse_engine.md R204), else the accumulator (R203). -/
def timerEvent (s : State) : State :=
  match s.cfg.mode with
  | .fixed => subpulseStep s
  | .accum => accumTick s

/-- TICK (43_pulse_engine.md R201). -/
def execTick (s : State) : Result := onceReset .tick s (.next (timerEvent s))

/-- RD.SUBPULSE (43_pulse_engine.md R207). -/
def execRdSubpulse (s : State) : Result := onceReset .rdSubpulse s (.next (busReturn s.subpulse s))

/-- RD.ACC (43_pulse_engine.md R208). -/
def execRdAcc (s : State) : Result := onceReset .rdAcc s (.next (busReturn s.acc s))

/-- RD.MIDI_PEND: the pending count, which the read clears in the same operation (43_pulse_engine.md R209). -/
def execRdMidiPend (s : State) : Result :=
  onceReset .rdMidiPend s (.next (busReturn s.midiPend { s with midiPend := 0#16 }))

end Sys2Proof.Machine
end

