-- ==== Sys2Proof/Machine/Quadrature.lean ====
section
/-! DEFINITION. The quadrature encoder debouncer (41_decoder.md): PINS and RD.DIR. -/

namespace Sys2Proof.Machine

/-- Leaving rest with the mask m ≠ 00: A alone starts TRACK_L, B alone TRACK_R, both at once TRACK_X
(41_decoder.md R142, R143). -/
def leaveRest (m : Pins) : Track :=
  if m = 0b11#2 then .trackX
  else if m = 0b10#2 then .trackL
  else .trackR

/-- A two-bit change aborts the tracked rotation (41_decoder.md R143). -/
def abortOnTwoBits (m : Pins) (t : Track) : Track := if m = 0b11#2 then .trackX else t

/-- DIR after a return to rest from tracking state t by the change m: committed only if the tracked rotation's other
bit fell last (41_decoder.md R144). -/
def commit (t : Track) (m : Pins) (d : Direction) : Direction :=
  if t = .trackL ∧ m = 0b01#2 then .left
  else if t = .trackR ∧ m = 0b10#2 then .right
  else d

/-- One pin-change event with the pins cur after it (41_decoder.md R141 to R145). -/
def pinChange (cur : Pins) (s : State) : State :=
  let m := transitionMask cur s.decPrev
  let t := abortOnTwoBits m s.decTrack
  if m = 0b00#2 then { s with decPrev := cur }
  else if s.decTrack = .idle then { s with decPrev := cur, decTrack := leaveRest m }
  else if cur = 0b00#2 then { s with decPrev := cur, dir := commit t m s.dir, decTrack := .idle }
  else { s with decPrev := cur, decTrack := t }

/-- PINS (41_decoder.md R141). -/
def execPins (cur : Pins) (s : State) : Result := onceReset (.pins cur) s (.next (pinChange cur s))

/-- RD.DIR: the latched direction, which the read clears in the same operation (41_decoder.md R146). -/
def execRdDir (s : State) : Result :=
  onceReset .rdDir s (.next (busReturn (zext16 (dirCode s.dir)) { s with dir := .none }))

end Sys2Proof.Machine
end

