-- ==== Sys2Proof/Machine/Reset.lean ====
section
/-! DEFINITION. RESET (70_reset_and_hazards.md R280). -/

namespace Sys2Proof.Machine

/-- RESET with the pins ab: enabled in every state under a legal parameter set, before the first RESET and during a
transmission too, and it never faults (70_reset_and_hazards.md R280, R282). -/
def execReset (ab : Pins) (s : State) : Result := underLegal s (.next (resetCore ab s))

end Sys2Proof.Machine
end

