-- ==== Sys2Proof/Machine/Status.lean ====
section
/-! DEFINITION. RD.STATUS, and every bus access that the register map gives no meaning (44_status.md): it faults. -/

namespace Sys2Proof.Machine

/-- RD.STATUS: no side effect, DIR is not cleared (44_status.md R230). -/
def execRdStatus (s : State) : Result := onceReset .rdStatus s (.next (busReturn (statusWord s) s))

/-- WR of the read-only register STATUS (44_status.md R233). -/
def execWrStatus (d : Word) (s : State) : Result := alwaysFaults .busWriteRo (.wrStatus d) s

/-- WR of the read-only register TEMPO (44_status.md R233). -/
def execWrTempo (d : Word) (s : State) : Result := alwaysFaults .busWriteRo (.wrTempo d) s

/-- RD of the write-only register APPLY (44_status.md R234). -/
def execRdApply (s : State) : Result := alwaysFaults .busReadWo .rdApply s

/-- WR of the read-only register PERIOD (44_status.md R233). -/
def execWrPeriod (d : Word) (s : State) : Result := alwaysFaults .busWriteRo (.wrPeriod d) s

/-- WR of the read-only register SUBPULSE (44_status.md R233). -/
def execWrSubpulse (d : Word) (s : State) : Result := alwaysFaults .busWriteRo (.wrSubpulse d) s

/-- WR of the read-only register ACC (44_status.md R233). -/
def execWrAcc (d : Word) (s : State) : Result := alwaysFaults .busWriteRo (.wrAcc d) s

/-- WR of the read-and-clear register MIDI_PEND (44_status.md R233). -/
def execWrMidiPend (d : Word) (s : State) : Result := alwaysFaults .busWriteRo (.wrMidiPend d) s

/-- WR of the read-and-clear register DIR (44_status.md R233). -/
def execWrDir (d : Word) (s : State) : Result := alwaysFaults .busWriteRo (.wrDir d) s

/-- RD of the write-only register TX0_DATA (44_status.md R234). -/
def execRdTx0Data (s : State) : Result := alwaysFaults .busReadWo .rdTx0Data s

/-- RD of the write-only register TX1_DATA (44_status.md R234). -/
def execRdTx1Data (s : State) : Result := alwaysFaults .busReadWo .rdTx1Data s

/-- WR of the read-only register TX0_LAST (44_status.md R233). -/
def execWrTx0Last (d : Word) (s : State) : Result := alwaysFaults .busWriteRo (.wrTx0Last d) s

/-- WR of the read-only register TX1_LAST (44_status.md R233). -/
def execWrTx1Last (d : Word) (s : State) : Result := alwaysFaults .busWriteRo (.wrTx1Last d) s

/-- WR of the read-only register LINES (44_status.md R233). -/
def execWrLines (d : Word) (s : State) : Result := alwaysFaults .busWriteRo (.wrLines d) s

/-- RD of the unassigned address 0xD (44_status.md R232). -/
def execRdUnmappedD (s : State) : Result := alwaysFaults .busUnmapped .rdUnmappedD s

/-- WR of the unassigned address 0xD: any data faults (44_status.md R232). -/
def execWrUnmappedD (d : Word) (s : State) : Result := alwaysFaults .busUnmapped (.wrUnmappedD d) s

/-- RD of the unassigned address 0xE (44_status.md R232). -/
def execRdUnmappedE (s : State) : Result := alwaysFaults .busUnmapped .rdUnmappedE s

/-- WR of the unassigned address 0xE: any data faults (44_status.md R232). -/
def execWrUnmappedE (d : Word) (s : State) : Result := alwaysFaults .busUnmapped (.wrUnmappedE d) s

/-- RD of the unassigned address 0xF (44_status.md R232). -/
def execRdUnmappedF (s : State) : Result := alwaysFaults .busUnmapped .rdUnmappedF s

/-- WR of the unassigned address 0xF: any data faults (44_status.md R232). -/
def execWrUnmappedF (d : Word) (s : State) : Result := alwaysFaults .busUnmapped (.wrUnmappedF d) s

end Sys2Proof.Machine
end

