-- ==== Sys2Proof/Machine/Tempo.lean ====
section
/-! DEFINITION. The tempo accumulator and period divider (42_tempo.md): WR.APPLY, RD.TEMPO, RD.PERIOD. -/

namespace Sys2Proof.Machine

/-- step(t, d): the tempo after one direction, saturating at TEMPO_MAX and TEMPO_MIN (42_tempo.md R171, R172). -/
def tempoAfter (c : Config) (t : Nat) (d : Direction) : Nat :=
  match d with
  | .none => t
  | .left => min (t + tempoStep) c.tempoMax
  | .right => max (t - tempoStep) c.tempoMin

/-- `apply(direction)`: it writes TEMPO only (42_tempo.md R173). -/
def applyTempo (d : Direction) (s : State) : State :=
  { s with tempo := BitVec.ofNat 16 (tempoAfter s.cfg s.tempo.toNat d) }

/-- WR.APPLY: a reserved value faults with APPLY_RESERVED (42_tempo.md R173, 30_encoding.md R93). -/
def execWrApply (d : Word) (s : State) : Result :=
  onceReset (.wrApply d) s
    (match applyDirection d with
     | some dir => .next (applyTempo dir s)
     | none => .next (raiseFault .applyReserved (encode (.wrApply d)) s))

/-- RD.TEMPO (42_tempo.md R174). -/
def execRdTempo (s : State) : Result := onceReset .rdTempo s (.next (busReturn s.tempo s))

/-- RD.PERIOD: P(TEMPO), computed at the read (42_tempo.md R175). -/
def execRdPeriod (s : State) : Result :=
  onceReset .rdPeriod s (.next (busReturn (BitVec.ofNat 16 (period s.cfg s.tempo.toNat)) s))

end Sys2Proof.Machine
end

