-- ==== Sys2Proof/Machine/Dispatch.lean ====
section
/-! DEFINITION. exec: one arm per constructor of Instr, each a direct call of its meaning. -/

namespace Sys2Proof.Machine

def exec (i : Instr) (s : State) : Host.Outcome State Fault Refusal :=
  match i with
  | .rdStatus => Sys2Proof.Machine.execRdStatus s
  | .rdTempo => Sys2Proof.Machine.execRdTempo s
  | .rdApply => Sys2Proof.Machine.execRdApply s
  | .rdPeriod => Sys2Proof.Machine.execRdPeriod s
  | .rdSubpulse => Sys2Proof.Machine.execRdSubpulse s
  | .rdAcc => Sys2Proof.Machine.execRdAcc s
  | .rdMidiPend => Sys2Proof.Machine.execRdMidiPend s
  | .rdDir => Sys2Proof.Machine.execRdDir s
  | .rdTx0Data => Sys2Proof.Machine.execRdTx0Data s
  | .rdTx1Data => Sys2Proof.Machine.execRdTx1Data s
  | .rdTx0Last => Sys2Proof.Machine.execRdTx0Last s
  | .rdTx1Last => Sys2Proof.Machine.execRdTx1Last s
  | .rdLines => Sys2Proof.Machine.execRdLines s
  | .rdUnmappedD => Sys2Proof.Machine.execRdUnmappedD s
  | .rdUnmappedE => Sys2Proof.Machine.execRdUnmappedE s
  | .rdUnmappedF => Sys2Proof.Machine.execRdUnmappedF s
  | .wrStatus d => Sys2Proof.Machine.execWrStatus d s
  | .wrTempo d => Sys2Proof.Machine.execWrTempo d s
  | .wrApply d => Sys2Proof.Machine.execWrApply d s
  | .wrPeriod d => Sys2Proof.Machine.execWrPeriod d s
  | .wrSubpulse d => Sys2Proof.Machine.execWrSubpulse d s
  | .wrAcc d => Sys2Proof.Machine.execWrAcc d s
  | .wrMidiPend d => Sys2Proof.Machine.execWrMidiPend d s
  | .wrDir d => Sys2Proof.Machine.execWrDir d s
  | .wrTx0Data d => Sys2Proof.Machine.execWrTx0Data d s
  | .wrTx1Data d => Sys2Proof.Machine.execWrTx1Data d s
  | .wrTx0Last d => Sys2Proof.Machine.execWrTx0Last d s
  | .wrTx1Last d => Sys2Proof.Machine.execWrTx1Last d s
  | .wrLines d => Sys2Proof.Machine.execWrLines d s
  | .wrUnmappedD d => Sys2Proof.Machine.execWrUnmappedD d s
  | .wrUnmappedE d => Sys2Proof.Machine.execWrUnmappedE d s
  | .wrUnmappedF d => Sys2Proof.Machine.execWrUnmappedF d s
  | .tick => Sys2Proof.Machine.execTick s
  | .pins cur => Sys2Proof.Machine.execPins cur s
  | .txstep c => Sys2Proof.Machine.execTxstep c s
  | .reset ab => Sys2Proof.Machine.execReset ab s

end Sys2Proof.Machine
end

