-- ==== Sys2Proof/Machine/Step.lean ====
section
/-! DEFINITION. One step of a run: take the next operation word, decode it, and carry the operation out
(70_reset_and_hazards.md R292, 30_encoding.md R89). There is no program counter (10_state.md R20). -/

namespace Sys2Proof.Machine

/-- One operation word carried out: its operation's effect, or the refusal of a word that spells none
(00_scope.md R11, 30_encoding.md R88). -/
def runWord (w : OpWord) (s : State) : Result :=
  match decode w with
  | .operation i => exec i s
  | .refused why => .refused (.notAnOperation why w)

/-- One step: the next word of the sequence; the run ends when there is none (log 9). -/
def step (s : State) : Host.Outcome State Fault Refusal :=
  match takeWord s with
  | some (w, t) => runWord w t
  | none => .fault .runEnded

/-- The state in which the word that the host numbers by nbits and w is the next one taken. It stands for the outside
world's handing that word to the core (log 5). -/
def State.withFetchWord (s : State) (nbits w : Nat) : State := placeWord (tableWord nbits w) s

end Sys2Proof.Machine
end

