-- ==== Sys2Proof/Safety.lean ====
section
/-! DEFINITION. What the claims speak of, in the spec's terms and apart from the meanings: the register map, the fault
table, the agents, runs, clean runs and fair runs, the state invariants, the host's view of the state, and the
observers of a transmitter's lines. -/

namespace Sys2Proof.Machine

/-! ### The register map -/

/-- The access types of 10_state.md, section 3. -/
inductive Access where
  | ro
  | wo
  | rc
  | unassigned
  deriving DecidableEq, Repr

/-- The address map (20_memory.md R73). -/
def accessOf (a : RegAddr) : Access :=
  if a.toNat ∈ [0x0, 0x1, 0x3, 0x4, 0x5, 0xA, 0xB, 0xC] then .ro
  else if a.toNat ∈ [0x2, 0x8, 0x9] then .wo
  else if a.toNat ∈ [0x6, 0x7] then .rc
  else .unassigned

/-- `BusRead(a)` (20_memory.md R60). -/
def busRead (a : RegAddr) (s : State) : Result := exec (rdInstr a) s

/-- `BusWrite(a, d)` (20_memory.md R61). -/
def busWrite (a : RegAddr) (d : Word) (s : State) : Result := exec (wrInstr a d) s

/-! ### The fault table -/

/-- The number of a fault code (60_exceptions.md R250). -/
def faultNumber (f : FaultCode) : Nat :=
  match f with
  | .busUnmapped => 1
  | .busWriteRo => 2
  | .busReadWo => 3
  | .applyReserved => 4
  | .txBusy => 5
  | .noReset => 6

/-- The fault condition of a bus write that is no illegal access: a reserved APPLY value, or a busy channel
(60_exceptions.md R250, codes 4 and 5). -/
def writeFault (a : RegAddr) (d : Word) (s : State) : Option FaultCode :=
  if a = 0x2#4 then (if 3 ≤ d.toNat then some .applyReserved else none)
  else if a = 0x8#4 then (if s.tx0.busy then some .txBusy else none)
  else if a = 0x9#4 then (if s.tx1.busy then some .txBusy else none)
  else none

/-- The fault that the operation word w raises in state s after the first RESET, by the table of 60_exceptions.md
R250, read from the word's own fields. -/
def tableFault (w : OpWord) (s : State) : Option FaultCode :=
  if kindOf w = 0x1#4 then
    match accessOf (addrOf w) with
    | .unassigned => some .busUnmapped
    | .wo => some .busReadWo
    | _ => none
  else if kindOf w = 0x2#4 then
    match accessOf (addrOf w) with
    | .unassigned => some .busUnmapped
    | .wo => writeFault (addrOf w) (dataOf w) s
    | _ => some .busWriteRo
  else none

/-- The fault that the operation word w raises in state s, NO_RESET first (60_exceptions.md R250, R254). -/
def faultOf (w : OpWord) (s : State) : Option FaultCode :=
  if s.resetSeen || decide (kindOf w = 0x6#4) then tableFault w s else some .noReset

/-- FAULT after an operation that raises f, or none: the first fault is kept (60_exceptions.md R252). -/
def faultAfter (s : State) (f : Option FaultCode) (w : OpWord) : Option FaultRecord :=
  s.fault.or (f.map fun code => ⟨code, w⟩)

/-! ### A sub-pulse -/

/-- The state after one sub-pulse that leaves a in ACC, by 43_pulse_engine.md R202, R205 and R206, with BOUNDARY_DIV
of R200: MIDI_PEND + 1 modulo 2^16; at the boundary SUBPULSE 0, BEAT_IND flipped, GATE and PHASE 1, else SUBPULSE + 1,
GATE and PHASE 0. -/
def afterSubpulse (s : State) (a : Word) : State :=
  if s.subpulse.toNat + 1 = (if s.cfg.boundary = .beat then 24 else 24 * s.cfg.beatsPerMeasure) then
    { s with acc := a, midiPend := s.midiPend + 1#16, subpulse := 0#16, beatInd := !s.beatInd, gate := true,
             phase := .atBeatBoundary }
  else
    { s with acc := a, midiPend := s.midiPend + 1#16, subpulse := s.subpulse + 1#16, gate := false,
             phase := .withinBeat }

/-! ### Agents -/

/-- An operation has its own effect: the parameter set is legal (00_scope.md R7) and a RESET has occurred
(70_reset_and_hazards.md R281). -/
abbrev Ready (s : State) : Prop := legalConfig s.cfg = true ∧ s.resetSeen = true

/-- The agents of the core (60_exceptions.md R258). -/
inductive Agent where
  | host
  | timer
  | encoder
  | transmitter (c : ChannelId)
  | resetSource
  deriving DecidableEq, Repr

/-- The agent that issues an operation word of a KIND (30_encoding.md R81, 60_exceptions.md R258). -/
def agentOf (i : Instr) : Agent :=
  match i with
  | .tick => .timer
  | .pins _ => .encoder
  | .txstep c => .transmitter c
  | .reset _ => .resetSource
  | _ => .host

/-- When an agent's operations are enabled after the first RESET (60_exceptions.md R258). -/
def agentEnabled (g : Agent) (s : State) : Bool :=
  match g with
  | .transmitter c => (channel s c).busy
  | _ => true

/-! ### Runs -/

/-- One result, then an operation on the state it leaves; a stop stays a stop. -/
def andThen (r : Result) (k : State → Result) : Result :=
  match r with
  | .next t => k t
  | .fault f => .fault f
  | .refused e => .refused e

/-- Operations carried out one after the other. -/
def runOps (is : List Instr) (s : State) : Result :=
  match is with
  | [] => .next s
  | i :: rest => andThen (exec i s) (runOps rest)

/-- Operation words carried out one after the other (70_reset_and_hazards.md R292). -/
def runWords (ws : List OpWord) (s : State) : Result :=
  match ws with
  | [] => .next s
  | w :: rest => andThen (runWord w s) (runWords rest)

/-- Whether the first word of a run is a RESET (70_reset_and_hazards.md R292). -/
def startsWithReset (ws : List OpWord) : Bool :=
  match ws with
  | [] => false
  | w :: _ =>
    match decode w with
    | .operation (.reset _) => true
    | _ => false

/-- The run over ws with the parameters c finished cleanly in the state t: its first word is a RESET, every word had
its step (none was refused, every TXSTEP was enabled), FAULT = none, and no channel is busy
(70_reset_and_hazards.md R292). -/
def FinishedCleanly (c : Config) (ws : List OpWord) (t : State) : Prop :=
  startsWithReset ws = true ∧ runWords ws (State.startOfRun c []) = .next t ∧ t.fault = none
    ∧ t.tx0.busy = false ∧ t.tx1.busy = false

/-! ### Fair runs -/

/-- What happens at each moment of a run, without end (log 14): an operation word, or nothing, since the host, the
timer source and the encoder may stop at any point (60_exceptions.md R259). The words are merged in any order
(20_memory.md R66). -/
abbrev Schedule : Type := Nat → Option OpWord

/-- The states of a run that follows the schedule: a word has its step, and nothing changes where no word comes. -/
def Follows (schedule : Schedule) (run : Nat → State) : Prop :=
  ∀ n, match schedule n with
    | none => run (n + 1) = run n
    | some w => runWord w (run n) = .next (run (n + 1))

/-- At moment n channel c takes its next step. -/
abbrev TakesStep (schedule : Schedule) (c : ChannelId) (n : Nat) : Prop :=
  schedule n = some (encode (.txstep c))

/-- The fairness of 60_exceptions.md R259, the only one the core assumes: a channel that is busy eventually takes its
next step, unless it stops being busy before (by a RESET). Nothing is asked of any other agent. Its form is the
model's choice (log 14). -/
def Fair (schedule : Schedule) (run : Nat → State) : Prop :=
  ∀ c n, (channel (run n) c).busy = true →
    ∃ m, n ≤ m ∧ (TakesStep schedule c m ∨ (channel (run m) c).busy = false)

/-- The number of steps that channel c takes in the k moments from moment n on. -/
def stepsTaken (schedule : Schedule) (c : ChannelId) (n k : Nat) : Nat :=
  (List.range k).countP fun j => schedule (n + j) == some (encode (.txstep c))

/-- A finite sequence of words as a schedule: after its last word nothing happens (70_reset_and_hazards.md R292; log 14).
-/
def scheduleOf (ws : List OpWord) : Schedule := fun n => ws[n]?

/-- The words of the first n moments of a schedule, in order. -/
def wordsBefore (schedule : Schedule) (n : Nat) : List OpWord := (List.range n).filterMap schedule

/-! ### Invariants -/

/-- What 10_state.md R22 and R52 say of a channel: POS is 0..49, an idle channel has POS = 0 and LAT = 1, and a busy
one past position 0 has LAT = 0. -/
abbrev ChannelInv (ch : Channel) : Prop :=
  ch.pos.toNat ≤ 49 ∧ (ch.busy = false → ch.pos = 0#6 ∧ ch.lat = true)
    ∧ (ch.busy = true ∧ 1 ≤ ch.pos.toNat → ch.lat = false)

/-- The invariant of 10_state.md R52, with the bound on POS of R22 and, for MODE = FIXED, ACC = 0 (R25). -/
abbrev StateInv (s : State) : Prop :=
  (s.cfg.tempoMin ≤ s.tempo.toNat ∧ s.tempo.toNat ≤ s.cfg.tempoMax)
    ∧ s.subpulse.toNat < boundaryDiv s.cfg
    ∧ s.acc.toNat ≤ 65534
    ∧ dirCode s.dir ≠ 0b11#2
    ∧ (s.decTrack = .idle → s.decPrev = 0b00#2)
    ∧ phaseBit s.phase = s.gate
    ∧ ChannelInv s.tx0 ∧ ChannelInv s.tx1
    ∧ (s.cfg.mode = .fixed → s.acc = 0#16)

/-- The waveform invariant of a channel (40_bitserial.md R113, R114): CLK is high only between the clock-high write of
a bit j and its clock-low write, and then DAT is w[15 − j]; after the data write of bit j, DAT is that bit too. -/
abbrev WaveformInv (ch : Channel) : Prop :=
  ch.pos.toNat ≤ 49
    ∧ (ch.clk = true → ch.busy = true ∧ 3 ≤ ch.pos.toNat ∧ ch.pos.toNat % 3 = 0)
    ∧ (ch.busy = true ∧ 2 ≤ ch.pos.toNat → ch.dat = ch.shreg.getLsbD (15 - (ch.pos.toNat - 2) / 3))
    ∧ (ch.busy = true ∧ 3 ≤ ch.pos.toNat ∧ ch.pos.toNat % 3 = 0 → ch.clk = true)

/-! ### What the host can read -/

/-- The state elements that the register map shows (10_state.md R54, 60_exceptions.md R265): every element but FAULT,
RESET_SEEN, TX[c].POS and TX[c].SHREG. -/
structure HostView where
  tempo    : Word
  subpulse : Word
  acc      : Word
  midiPend : Word
  beatInd  : Bool
  gate     : Bool
  phase    : Phase
  decPrev  : Pins
  decTrack : Track
  dir      : Direction
  busy0    : Bool
  busy1    : Bool
  last0    : Word
  last1    : Word
  lines0   : Bool × Bool × Bool
  lines1   : Bool × Bool × Bool
  deriving DecidableEq, Repr

/-- The host's view of a state. -/
def hostView (s : State) : HostView where
  tempo    := s.tempo
  subpulse := s.subpulse
  acc      := s.acc
  midiPend := s.midiPend
  beatInd  := s.beatInd
  gate     := s.gate
  phase    := s.phase
  decPrev  := s.decPrev
  decTrack := s.decTrack
  dir      := s.dir
  busy0    := s.tx0.busy
  busy1    := s.tx1.busy
  last0    := s.tx0.last
  last1    := s.tx1.last
  lines0   := (s.tx0.clk, s.tx0.dat, s.tx0.lat)
  lines1   := (s.tx1.clk, s.tx1.dat, s.tx1.lat)

/-- The value that the operation i returned in going from s to t, if it returned one. -/
def returnedBy (s t : State) : List Word := t.returned.drop s.returned.length

/-! ### Observers of a channel's lines -/

/-- What an observer of one line set has seen (40_bitserial.md R118): the clock's edges, the latch's edges, the
changes of level on the data line, and the data level at each rising edge of the clock, in order. -/
structure LineLog where
  clkRises : Nat
  clkFalls : Nat
  latRises : Nat
  latFalls : Nat
  datEdges : Nat
  bits     : List Bool
  deriving DecidableEq, Repr

/-- An observer that has seen nothing yet. -/
def LineLog.empty : LineLog := ⟨0, 0, 0, 0, 0, []⟩

/-- One step of the observer: the lines before and after an operation. -/
def observe (before after : Channel) (l : LineLog) : LineLog where
  clkRises := if before.clk = false ∧ after.clk = true then l.clkRises + 1 else l.clkRises
  clkFalls := if before.clk = true ∧ after.clk = false then l.clkFalls + 1 else l.clkFalls
  latRises := if before.lat = false ∧ after.lat = true then l.latRises + 1 else l.latRises
  latFalls := if before.lat = true ∧ after.lat = false then l.latFalls + 1 else l.latFalls
  datEdges := if before.dat = after.dat then l.datEdges else l.datEdges + 1
  bits     := if before.clk = false ∧ after.clk = true then l.bits ++ [after.dat] else l.bits

/-- The informative receiving shift register (40_bitserial.md R120); it is outside the core. -/
structure Receiver where
  rx  : Word
  out : Word
  deriving DecidableEq, Repr

/-- One step of the receiver: it shifts DAT in on a rising edge of CLK and copies on a rising edge of LAT
(40_bitserial.md R120). -/
def receive (before after : Channel) (r : Receiver) : Receiver :=
  let rx := if before.clk = false ∧ after.clk = true then r.rx <<< 1 ||| zext16 (BitVec.ofBool after.dat) else r.rx
  { rx := rx, out := if before.lat = false ∧ after.lat = true then rx else r.out }

/-- n TXSTEPs of channel c, watched by an observer and a receiver; none where one of them has no step. -/
def watchSteps (c : ChannelId) (n : Nat) (s : State) (l : LineLog) (r : Receiver) : Option (State × LineLog × Receiver) :=
  match n with
  | 0 => some (s, l, r)
  | n + 1 =>
    match exec (.txstep c) s with
    | .next t =>
      watchSteps c n t (observe (channel s c) (channel t c) l) (receive (channel s c) (channel t c) r)
    | _ => none

/-- The 16 bits of a word, MSB first. -/
def bitsMsbFirst (w : Word) : List Bool := (List.range 16).map fun j => w.getLsbD (15 - j)

/-- The number of changes of level along a list, from the level b. -/
def levelChanges (b : Bool) (bs : List Bool) : Nat :=
  match bs with
  | [] => 0
  | x :: rest => (if b = x then 0 else 1) + levelChanges x rest

/-! ### Encoder cycles -/

/-- Every event of the list changes at most one phase bit, from the pins p on. -/
def singleBitChanges (p : Pins) (evs : List Pins) : Bool :=
  match evs with
  | [] => true
  | q :: rest => transitionMask q p != 0b11#2 && singleBitChanges q rest

/-- The state right after the events, as operations. -/
def pinEvents (evs : List Pins) : List Instr := evs.map Instr.pins

end Sys2Proof.Machine
end

