-- ==== Sys2Proof/Certificates/Slice0/Obligations.lean ====
section
/-! DEFINITION. The statements for the provers. `Ready s` says that the parameter set is legal and a RESET has
occurred; `faultAfter s (some c) w` is FAULT after the operation word w raised the code c (the first fault is kept).
A statement whose conclusion is `exec i s = .next { s with … }` also says that every other element is unchanged. -/

open Sys2Proof Sys2Proof.Machine

/-! ### Encoding -/

/-- 95_test_vectors.md section 2 (V-ENC-1 to V-ENC-15): words written out from the formats R82 to R87, and refused
words of R88. -/
def Obligations.SampleWordsDecode : Prop :=
  decode 0x100000#24 = .operation .rdStatus ∧ decode 0x1C0000#24 = .operation .rdLines
    ∧ decode 0x220001#24 = .operation (.wrApply 0x0001#16)
    ∧ decode 0x2F1234#24 = .operation (.wrUnmappedF 0x1234#16)
    ∧ decode 0x28063F#24 = .operation (.wrTx0Data 0x063F#16)
    ∧ decode 0x300000#24 = .operation .tick ∧ decode 0x400003#24 = .operation (.pins 0b11#2)
    ∧ decode 0x500001#24 = .operation (.txstep .cv) ∧ decode 0x600002#24 = .operation (.reset 0b10#2)
    ∧ ∀ w ∈ [0x000000#24, 0x700000#24, 0xF00000#24, 0x110001#24, 0x300001#24, 0x310000#24, 0x400004#24, 0x410000#24,
        0x500002#24, 0x510000#24, 0x600004#24, 0x610000#24], ∃ why, decode w = .refused why

/-- The word of every operation, with every operand at every value, decodes to that operation (formats R82 to R87,
operand assembly R90). -/
def Obligations.DecodeOfEncodeIsTheOperation : Prop :=
  ∀ i : Instr, decode (encode i) = .operation i

/-- A word that spells an operation is that operation's word: no bit of it is dropped, and no two words spell the
same operation. -/
def Obligations.EncodeOfDecodedIsTheWord : Prop :=
  ∀ (w : OpWord) (i : Instr), decode w = .operation i → encode i = w

/-- 30_encoding.md R88: a word is refused exactly when one of the six conditions holds, here on its number: KIND is
w / 2^20, ADDR is w / 2^16 mod 16, DATA is w mod 2^16. A refused word has no step, in any state, and no run that
holds one has a final state. -/
def Obligations.RefusedWordsAreThoseOfTheList : Prop :=
  ∀ (w : OpWord) (kind addr data : Nat),
    kind = w.toNat / 2 ^ 20 → addr = w.toNat / 2 ^ 16 % 16 → data = w.toNat % 2 ^ 16 →
    (((kind = 0 ∨ 7 ≤ kind) ∨ (kind = 1 ∧ data ≠ 0) ∨ (3 ≤ kind ∧ kind ≤ 6 ∧ addr ≠ 0) ∨ (kind = 3 ∧ data ≠ 0)
        ∨ ((kind = 4 ∨ kind = 6) ∧ 4 ≤ data) ∨ (kind = 5 ∧ 2 ≤ data)) ↔
      ∃ why, decode w = .refused why ∧ (∀ s : State, runWord w s = .refused (.notAnOperation why w))
        ∧ ∀ (ws : List OpWord) (s t : State), w ∈ ws → runWords ws s ≠ .next t)

/-- spec/opcode_table.json with 30_encoding.md R91: a word matches a row of the table exactly when it decodes to an
operation of that row's mnemonic. -/
def Obligations.DecoderFollowsTheOpcodeTable : Prop :=
  (∀ row ∈ opcodeTable, ∀ w : OpWord, w &&& row.mask = row.pattern →
      ∃ i, decode w = .operation i ∧ mnemonic i = row.name)
    ∧ ∀ (w : OpWord) (i : Instr), decode w = .operation i →
      ∃ row ∈ opcodeTable, w &&& row.mask = row.pattern ∧ row.name = mnemonic i

/-! ### One step of a run -/

/-- A step takes the next word of the sequence and carries out the operation it spells, on the state without that word
(70_reset_and_hazards.md R292, 30_encoding.md R89). -/
def Obligations.StepRunsTheNextOperation : Prop :=
  ∀ (s : State) (w : OpWord) (ws : List OpWord) (i : Instr), s.input = w :: ws → decode w = .operation i →
    step s = exec i { s with input := ws }

/-- How a step stops, the model's choices of log 8, log 9 and log 12: it stops when the sequence is used up, it
refuses a word that spells no operation, and a TXSTEP of an idle channel, which has no step (40_bitserial.md R112),
stops. -/
def Obligations.StepStopsWithoutAnOperation : Prop :=
  (∀ s : State, s.input = [] → step s = .fault .runEnded)
    ∧ (∀ (s : State) (w : OpWord) (ws : List OpWord) (why : RefusedWord), s.input = w :: ws →
        decode w = .refused why → step s = .refused (.notAnOperation why w))
    ∧ ∀ (c : ChannelId) (s : State) (ws : List OpWord), Ready s → (channel s c).busy = false →
        s.input = encode (.txstep c) :: ws → step s = .fault (.channelIdle c)

/-- The run of the machine behind Host/Core.lean over the words ws is the words carried out one after the other, with
the words after them left to take (70_reset_and_hazards.md R292). -/
def Obligations.MachineRunIsTheWordSequence : Prop :=
  ∀ (ws rest : List OpWord) (s : State), s.input = ws ++ rest →
    Host.Core.run core ws.length s = runWords ws { s with input := rest }

/-! ### Legality, the first RESET, faults -/

/-- 00_scope.md R7: the four conditions, P in 1..65535 for every legal TEMPO, and no operation under an illegal
set. -/
def Obligations.LegalParameterSets : Prop :=
  (∀ c : Config, legalConfig c = true ↔
      ((1 ≤ c.tempoMin ∧ c.tempoMin ≤ 120 ∧ 120 ≤ c.tempoMax ∧ c.tempoMax ≤ 65535)
        ∧ 60 * c.timerHz / (c.tempoMin * 24) ≤ 65535 ∧ 1 ≤ 60 * c.timerHz / (c.tempoMax * 24)
        ∧ (c.boundary = .measure → 1 ≤ c.beatsPerMeasure ∧ 24 * c.beatsPerMeasure ≤ 65535)))
    ∧ (∀ (c : Config) (t : Nat), legalConfig c = true → c.tempoMin ≤ t → t ≤ c.tempoMax →
        1 ≤ period c t ∧ period c t ≤ 65535)
    ∧ ∀ (i : Instr) (s : State), legalConfig s.cfg = false → exec i s = .refused .illegalParameters

/-- 70_reset_and_hazards.md R281: until the first RESET every operation but RESET faults with NO_RESET and does
nothing else; RESET sets RESET_SEEN, which is 0 at the start of a run and which nothing clears. -/
def Obligations.NothingButResetBeforeTheFirstReset : Prop :=
  (∀ (i : Instr) (s : State), legalConfig s.cfg = true → s.resetSeen = false → (∀ ab, i ≠ .reset ab) →
      exec i s = .next { s with fault := faultAfter s (some .noReset) (encode i) })
    ∧ (∀ (c : Config) (ws : List OpWord),
        (State.startOfRun c ws).resetSeen = false ∧ (State.startOfRun c ws).fault = none)
    ∧ (∀ (ab : Pins) (s : State), legalConfig s.cfg = true →
        ∃ t, exec (.reset ab) s = .next t ∧ t.resetSeen = true)
    ∧ ∀ (i : Instr) (s t : State), exec i s = .next t → s.resetSeen = true → t.resetSeen = true

/-- 60_exceptions.md R250 and R254: FAULT after an operation is what the fault table gives for the operation's word,
NO_RESET first. -/
def Obligations.FaultsFollowTheTable : Prop :=
  (∀ (i : Instr) (s t : State), exec i s = .next t → t.fault = faultAfter s (faultOf (encode i) s) (encode i))
    ∧ (∀ (i : Instr) (s : State), legalConfig s.cfg = true → faultOf (encode i) s ≠ none →
        ∃ t, exec i s = .next t)
    ∧ [FaultCode.busUnmapped, .busWriteRo, .busReadWo, .applyReserved, .txBusy, .noReset].map faultNumber
        = [1, 2, 3, 4, 5, 6]

/-- 60_exceptions.md R251: a faulting operation writes no state element, returns no data, and sets FAULT to its code
with its word. -/
def Obligations.AFaultIsPrecise : Prop :=
  ∀ (i : Instr) (s : State) (code : FaultCode), legalConfig s.cfg = true → s.fault = none →
    faultOf (encode i) s = some code → exec i s = .next { s with fault := some ⟨code, encode i⟩ }

/-- 60_exceptions.md R252: FAULT, once set, keeps its first value, a second fault changes nothing, an operation that
does not fault has the meaning it would have had, and no run with FAULT set has finished cleanly. -/
def Obligations.TheFirstFaultIsKept : Prop :=
  (∀ (i : Instr) (s t : State) (f : FaultRecord), exec i s = .next t → s.fault = some f → t.fault = some f)
    ∧ (∀ (i : Instr) (s : State) (f : FaultRecord), legalConfig s.cfg = true → s.fault = some f →
        faultOf (encode i) s ≠ none → exec i s = .next s)
    ∧ (∀ (i : Instr) (s t : State) (f : FaultRecord), exec i { s with fault := none } = .next t → t.fault = none →
        exec i { s with fault := some f } = .next { t with fault := some f })
    ∧ ∀ (c : Config) (ws : List OpWord) (t : State), t.fault ≠ none → ¬ FinishedCleanly c ws t

/-- 60_exceptions.md R258: after the first RESET an operation has a step exactly when its agent is enabled, whatever
its operands; RESET always has one; before the first RESET every other operation faults with NO_RESET. -/
def Obligations.OperationsHaveAStepWhenEnabled : Prop :=
  (∀ (i : Instr) (s : State), Ready s → ((∃ t, exec i s = .next t) ↔ agentEnabled (agentOf i) s = true))
    ∧ (∀ (ab : Pins) (s : State), legalConfig s.cfg = true → ∃ t, exec (.reset ab) s = .next t)
    ∧ ∀ (i : Instr) (s : State), legalConfig s.cfg = true → s.resetSeen = false → (∀ ab, i ≠ .reset ab) →
        exec i s = .next { s with fault := faultAfter s (some .noReset) (encode i) }

/-! ### Illegal bus accesses -/

/-- 44_status.md R232: every access to 0xD, 0xE or 0xF faults with BUS_UNMAPPED, whatever the data, and writes only
the fault record. Constructors: rdUnmappedD, rdUnmappedE, rdUnmappedF, wrUnmappedD, wrUnmappedE, wrUnmappedF. -/
def Obligations.UnmappedAccessesFault : Prop :=
  (∀ (s : State) (d : Word) (i : Instr), Ready s →
      i ∈ [.rdUnmappedD, .rdUnmappedE, .rdUnmappedF, .wrUnmappedD d, .wrUnmappedE d, .wrUnmappedF d] →
      exec i s = .next { s with fault := faultAfter s (some .busUnmapped) (encode i) })
    ∧ ∀ d : Word,
      [0x1D0000#24, 0x1E0000#24, 0x1F0000#24, 0x2D#8 ++ d, 0x2E#8 ++ d, 0x2F#8 ++ d].map decode
        = [Instr.rdUnmappedD, .rdUnmappedE, .rdUnmappedF, .wrUnmappedD d, .wrUnmappedE d, .wrUnmappedF d].map
            Decoded.operation

/-- 44_status.md R233: a write of a read-only or read-and-clear register faults with BUS_WRITE_RO, whatever the data,
and writes only the fault record. Constructors: wrStatus, wrTempo, wrPeriod, wrSubpulse, wrAcc, wrMidiPend, wrDir,
wrTx0Last, wrTx1Last, wrLines. -/
def Obligations.WritesOfReadOnlyRegistersFault : Prop :=
  (∀ (s : State) (d : Word) (i : Instr), Ready s →
      i ∈ [.wrStatus d, .wrTempo d, .wrPeriod d, .wrSubpulse d, .wrAcc d, .wrMidiPend d, .wrDir d, .wrTx0Last d,
        .wrTx1Last d, .wrLines d] →
      exec i s = .next { s with fault := faultAfter s (some .busWriteRo) (encode i) })
    ∧ ∀ d : Word,
      [0x20#8 ++ d, 0x21#8 ++ d, 0x23#8 ++ d, 0x24#8 ++ d, 0x25#8 ++ d, 0x26#8 ++ d, 0x27#8 ++ d, 0x2A#8 ++ d,
          0x2B#8 ++ d, 0x2C#8 ++ d].map decode
        = [Instr.wrStatus d, .wrTempo d, .wrPeriod d, .wrSubpulse d, .wrAcc d, .wrMidiPend d, .wrDir d, .wrTx0Last d,
            .wrTx1Last d, .wrLines d].map Decoded.operation

/-- 44_status.md R234: a read of a write-only register faults with BUS_READ_WO, returns no data, and writes only the
fault record. Constructors: rdApply, rdTx0Data, rdTx1Data. -/
def Obligations.ReadsOfWriteOnlyRegistersFault : Prop :=
  (∀ (s : State) (i : Instr), Ready s → i ∈ [.rdApply, .rdTx0Data, .rdTx1Data] →
      exec i s = .next { s with fault := faultAfter s (some .busReadWo) (encode i) })
    ∧ [0x120000#24, 0x180000#24, 0x190000#24].map decode
        = [Instr.rdApply, .rdTx0Data, .rdTx1Data].map Decoded.operation

/-- 20_memory.md R73 with 30_encoding.md R92: the access type of an address decides whether a read of it returns data
and whether a write of it is an illegal access. -/
def Obligations.AccessTypesOfTheRegisterMap : Prop :=
  ∀ (a : RegAddr) (d : Word) (s : State), Ready s → s.fault = none →
    match accessOf a with
    | .unassigned =>
      busRead a s = .next { s with fault := some ⟨.busUnmapped, opWord 0x1#4 a 0#16⟩ }
        ∧ busWrite a d s = .next { s with fault := some ⟨.busUnmapped, opWord 0x2#4 a d⟩ }
    | .wo =>
      busRead a s = .next { s with fault := some ⟨.busReadWo, opWord 0x1#4 a 0#16⟩ }
        ∧ ∃ t, busWrite a d s = .next t ∧ t.returned = s.returned
          ∧ ∀ f, t.fault = some f → f.code = .applyReserved ∨ f.code = .txBusy
    | .ro =>
      (∃ x, busRead a s = .next { s with returned := s.returned ++ [x] })
        ∧ busWrite a d s = .next { s with fault := some ⟨.busWriteRo, opWord 0x2#4 a d⟩ }
    | .rc =>
      (∃ x t, busRead a s = .next t ∧ t.returned = s.returned ++ [x] ∧ t.fault = none
          ∧ busRead a t = .next { t with returned := t.returned ++ [0#16] })
        ∧ busWrite a d s = .next { s with fault := some ⟨.busWriteRo, opWord 0x2#4 a d⟩ }

/-! ### Reads -/

/-- 10_state.md R40 and 44_status.md R230, R231: RD.STATUS returns the fields, bit for bit, and changes nothing else.
-/
def Obligations.RdStatusReturnsItsFields : Prop :=
  (∀ s : State, Ready s →
    ∃ x : Word, exec .rdStatus s = .next { s with returned := s.returned ++ [x] }
      ∧ x.getLsbD 0 = s.beatInd ∧ x.getLsbD 1 = s.gate ∧ x.getLsbD 2 = decide (s.phase = .atBeatBoundary)
      ∧ x.getLsbD 3 = s.tx0.busy ∧ x.getLsbD 4 = s.tx1.busy
      ∧ x.extractLsb' 5 2 = (match s.decTrack with
          | .idle => 0b00#2
          | .trackL => 0b01#2
          | .trackR => 0b10#2
          | .trackX => 0b11#2)
      ∧ x.extractLsb' 7 2 = s.decPrev
      ∧ x.extractLsb' 9 2 = (match s.dir with
          | .none => 0b00#2
          | .left => 0b01#2
          | .right => 0b10#2)
      ∧ x.getLsbD 11 = decide (s.cfg.mode = .fixed) ∧ x.getLsbD 12 = decide (s.cfg.boundary = .measure)
      ∧ x.extractLsb' 13 3 = 0b000#3)
    ∧ decode 0x100000#24 = .operation .rdStatus
    ∧ ∀ c : Config, legalConfig c = true → c.mode = .accum → c.boundary = .beat →
        (exec .rdStatus (State.afterReset c 0b00#2)
            = .next { State.afterReset c 0b00#2 with returned := [0x0000#16] })
        ∧ runWords (rotL ++ [encode .rdStatus]) (State.afterReset c 0b00#2)
            = .next { State.afterReset c 0b00#2 with dir := .left, returned := [0x0200#16] }

/-- 42_tempo.md R174. -/
def Obligations.RdTempoReturnsTempo : Prop :=
  (∀ s : State, Ready s → exec .rdTempo s = .next { s with returned := s.returned ++ [s.tempo] })
    ∧ decode 0x110000#24 = .operation .rdTempo
    ∧ ∀ (c : Config) (ab : Pins), legalConfig c = true →
        exec .rdTempo (State.afterReset c ab) = .next { State.afterReset c ab with returned := [0x0078#16] }

/-- 42_tempo.md R175: RD.PERIOD returns P(TEMPO), which for a TEMPO within its bounds is in 1..65535. -/
def Obligations.RdPeriodReturnsThePeriod : Prop :=
  (∀ s : State, Ready s → exec .rdPeriod s
      = .next { s with returned := s.returned ++ [BitVec.ofNat 16 (60 * s.cfg.timerHz / (s.tempo.toNat * 24))] })
    ∧ (∀ s : State, Ready s → s.cfg.tempoMin ≤ s.tempo.toNat → s.tempo.toNat ≤ s.cfg.tempoMax →
        ∃ x : Word, exec .rdPeriod s = .next { s with returned := s.returned ++ [x] }
          ∧ x.toNat = 60 * s.cfg.timerHz / (s.tempo.toNat * 24) ∧ 1 ≤ x.toNat)
    ∧ decode 0x130000#24 = .operation .rdPeriod
    ∧ ∀ (c : Config) (ab : Pins), legalConfig c = true → c.timerHz = 250000 →
        exec .rdPeriod (State.afterReset c ab) = .next { State.afterReset c ab with returned := [0x1458#16] }

/-- 43_pulse_engine.md R207: RD.SUBPULSE returns SUBPULSE, which is below BOUNDARY_DIV in every state that meets the
invariant; a 0 after a boundary comes with GATE = 1, the 0 of a reset with GATE = 0; after 23 sub-pulses from reset
(TICKs with MODE = FIXED) it is 23. -/
def Obligations.RdSubpulseReturnsSubpulse : Prop :=
  (∀ s : State, Ready s → exec .rdSubpulse s = .next { s with returned := s.returned ++ [s.subpulse] })
    ∧ (∀ s : State, Ready s → StateInv s → ∃ x : Word,
        exec .rdSubpulse s = .next { s with returned := s.returned ++ [x] } ∧ x.toNat < boundaryDiv s.cfg)
    ∧ (∀ s t : State, Ready s → StateInv s → exec .tick s = .next t → t.subpulse = 0#16 → t.subpulse ≠ s.subpulse →
        t.gate = true)
    ∧ decode 0x140000#24 = .operation .rdSubpulse
    ∧ ∀ (c : Config) (ab : Pins), legalConfig c = true → c.mode = .fixed →
        ∃ t, runWords (tickN 23 ++ [encode .rdSubpulse]) (State.afterReset c ab) = .next t ∧ t.returned = [0x0017#16]
          ∧ (State.afterReset c ab).gate = false

/-- 43_pulse_engine.md R208: RD.ACC returns ACC, which with MODE = FIXED is 0 in every state that meets the
invariant. -/
def Obligations.RdAccReturnsAcc : Prop :=
  (∀ s : State, Ready s → exec .rdAcc s = .next { s with returned := s.returned ++ [s.acc] })
    ∧ (∀ s : State, Ready s → StateInv s → s.cfg.mode = .fixed →
        exec .rdAcc s = .next { s with returned := s.returned ++ [0#16] })
    ∧ decode 0x150000#24 = .operation .rdAcc
    ∧ ∀ (c : Config) (ab : Pins), legalConfig c = true → c.mode = .accum → c.timerHz = 250000 →
        ∃ t, runWords (tickN 5207 ++ [encode .rdAcc]) (State.afterReset c ab) = .next t ∧ t.returned = [0x1457#16]

/-- 43_pulse_engine.md R209: RD.MIDI_PEND returns MIDI_PEND and clears it in the same operation, so that a second read
returns 0. -/
def Obligations.RdMidiPendReadsAndClears : Prop :=
  (∀ s : State, Ready s →
      exec .rdMidiPend s = .next { s with midiPend := 0#16, returned := s.returned ++ [s.midiPend] })
    ∧ (∀ s : State, Ready s → runOps [.rdMidiPend, .rdMidiPend] s
        = .next { s with midiPend := 0#16, returned := s.returned ++ [s.midiPend, 0#16] })
    ∧ decode 0x160000#24 = .operation .rdMidiPend
    ∧ ∀ (c : Config) (ab : Pins), legalConfig c = true → c.mode = .fixed →
        ∃ t, runWords (tickN 24 ++ [encode .rdMidiPend, encode .rdMidiPend]) (State.afterReset c ab) = .next t
          ∧ t.returned = [0x0018#16, 0#16]

/-- 41_decoder.md R146: RD.DIR returns the code of DIR, zero-extended, and clears DIR in the same operation; the
tracking state and DEC_PREV stay. -/
def Obligations.RdDirTakesTheDirection : Prop :=
  (∀ s : State, Ready s → exec .rdDir s
      = .next { s with dir := .none, returned := s.returned ++ [match s.dir with
          | .none => 0x0000#16
          | .left => 0x0001#16
          | .right => 0x0002#16] })
    ∧ decode 0x170000#24 = .operation .rdDir
    ∧ ∀ s : State, Ready s → s.decTrack = .idle → s.decPrev = 0b00#2 →
        runWords (rotL ++ [encode .rdDir, encode .rdDir]) s
          = .next { s with dir := .none, returned := s.returned ++ [0x0001#16, 0x0000#16] }

/-- 40_bitserial.md R116: the last committed word of a channel; while a word is in flight, the one before it; 0x0000
after a reset. -/
def Obligations.RdTxLastReturnsLast : Prop :=
  (∀ s : State, Ready s → exec .rdTx0Last s = .next { s with returned := s.returned ++ [s.tx0.last] })
    ∧ (∀ s : State, Ready s → exec .rdTx1Last s = .next { s with returned := s.returned ++ [s.tx1.last] })
    ∧ decode 0x1A0000#24 = .operation .rdTx0Last ∧ decode 0x1B0000#24 = .operation .rdTx1Last
    ∧ (∀ (s : State) (w : Word), Ready s → s.tx0.busy = false →
        runWords [encode (.wrTx0Data w), 0x1A0000#24] s
          = .next { s with tx0 := { s.tx0 with shreg := w, pos := 0#6, busy := true },
                           returned := s.returned ++ [s.tx0.last] })
    ∧ (∀ (s : State) (w : Word), Ready s → s.tx1.busy = false →
        runWords [encode (.wrTx1Data w), 0x1B0000#24] s
          = .next { s with tx1 := { s.tx1 with shreg := w, pos := 0#6, busy := true },
                           returned := s.returned ++ [s.tx1.last] })
    ∧ (∀ (c : Config) (ab : Pins), legalConfig c = true → runWords [0x1A0000#24, 0x1B0000#24] (State.afterReset c ab)
        = .next { State.afterReset c ab with returned := [0x0000#16, 0x0000#16] })
    ∧ (∀ (s : State) (w : Word), Ready s → s.tx0.busy = false → ∃ t, runWords (tx .display w) s = .next t
        ∧ exec .rdTx0Last t = .next { t with returned := s.returned ++ [w] })
    ∧ ∀ (s : State) (w : Word), Ready s → s.tx1.busy = false → ∃ t, runWords (tx .cv w) s = .next t
        ∧ exec .rdTx1Last t = .next { t with returned := s.returned ++ [w] }

/-- 10_state.md R50 and 40_bitserial.md R117: RD.LINES returns the six line levels, and 0 in every other bit. -/
def Obligations.RdLinesReturnsTheLevels : Prop :=
  (∀ s : State, Ready s →
    ∃ x : Word, exec .rdLines s = .next { s with returned := s.returned ++ [x] }
      ∧ x.getLsbD 0 = s.tx0.clk ∧ x.getLsbD 1 = s.tx0.dat ∧ x.getLsbD 2 = s.tx0.lat ∧ x.getLsbD 3 = false
      ∧ x.getLsbD 4 = s.tx1.clk ∧ x.getLsbD 5 = s.tx1.dat ∧ x.getLsbD 6 = s.tx1.lat ∧ x.extractLsb' 7 9 = 0#9)
    ∧ decode 0x1C0000#24 = .operation .rdLines
    ∧ ∀ (c : Config) (ab : Pins), legalConfig c = true →
        (exec .rdLines (State.afterReset c ab) = .next { State.afterReset c ab with returned := [0x0044#16] })
        ∧ ∃ t, runWords [0x28063F#24, 0x500000#24, 0x500000#24, 0x500000#24, 0x1C0000#24] (State.afterReset c ab)
            = .next t ∧ t.returned = [0x0041#16]

/-! ### Tempo -/

/-- 42_tempo.md R170: P(t) is the integer part of 60 × TIMER_HZ / (t × 24), with the divisor 24 under either boundary
policy, and lies in 1..65535 for every legal t. -/
def Obligations.PeriodDividerIsOneFloorDivision : Prop :=
  (∀ (c : Config) (t : Nat), 1 ≤ t →
      period c t * (t * 24) ≤ 60 * c.timerHz ∧ 60 * c.timerHz < (period c t + 1) * (t * 24))
    ∧ (∀ (c : Config) (t : Nat), legalConfig c = true → c.tempoMin ≤ t → t ≤ c.tempoMax →
        1 ≤ period c t ∧ period c t ≤ 65535)
    ∧ ∀ (c : Config) (b : Boundary) (t : Nat), period { c with boundary := b } t = period c t

/-- 42_tempo.md R172 and R173: WR.APPLY with 0, 1 or 2 gives TEMPO, TEMPO + 1 up to TEMPO_MAX, or TEMPO − 1 down to
TEMPO_MIN, and writes nothing else; any other data faults with APPLY_RESERVED. The example of R173 at TEMPO = 120. -/
def Obligations.WrApplyStepsTheTempo : Prop :=
  (∀ (s : State) (d : Word), Ready s → d.toNat ≤ 2 →
      ∃ x : Word, exec (.wrApply d) s = .next { s with tempo := x }
        ∧ x.toNat = (if d.toNat = 0 then s.tempo.toNat
            else if d.toNat = 1 then min (s.tempo.toNat + 1) s.cfg.tempoMax
            else max (s.tempo.toNat - 1) s.cfg.tempoMin))
    ∧ (∀ (s : State) (d : Word), Ready s → d.extractLsb' 2 14 ≠ 0#14 ∨ d.extractLsb' 0 2 = 0b11#2 →
        exec (.wrApply d) s = .next { s with fault := faultAfter s (some .applyReserved) (encode (.wrApply d)) })
    ∧ (∀ d : Word, decode (0x22#8 ++ d) = .operation (.wrApply d))
    ∧ ∀ s : State, Ready s → s.tempo = 120#16 → 121 ≤ s.cfg.tempoMax → s.cfg.timerHz = 250000 →
        runWords [0x220001#24, 0x130000#24] s
          = .next { s with tempo := 121#16, returned := s.returned ++ [BitVec.ofNat 16 5165] }

/-- 42_tempo.md R171: WR.APPLY keeps TEMPO within its bounds, by saturation and without a fault. -/
def Obligations.TempoSaturatesAtItsBounds : Prop :=
  (∀ s : State, Ready s → s.tempo.toNat = s.cfg.tempoMax → exec (.wrApply 0x0001#16) s = .next s)
    ∧ (∀ s : State, Ready s → s.tempo.toNat = s.cfg.tempoMin → exec (.wrApply 0x0002#16) s = .next s)
    ∧ ∀ (s t : State) (d : Word), Ready s → s.cfg.tempoMin ≤ s.tempo.toNat → s.tempo.toNat ≤ s.cfg.tempoMax →
        exec (.wrApply d) s = .next t → t.cfg.tempoMin ≤ t.tempo.toNat ∧ t.tempo.toNat ≤ t.cfg.tempoMax

/-- 42_tempo.md R176 (the spec's own inference): a tempo that WR.APPLY wrote is used by the next RD.PERIOD and, with
MODE = ACCUM, by the next TICK's comparison; nothing but TEMPO has changed before them. -/
def Obligations.ATempoTakesEffectAtItsNextUse : Prop :=
  ∀ (s : State) (d : Word), Ready s → d.toNat ≤ 2 →
    ∃ t, exec (.wrApply d) s = .next t ∧ t = { s with tempo := t.tempo }
      ∧ exec .rdPeriod t = .next { t with returned := s.returned ++ [BitVec.ofNat 16 (period s.cfg t.tempo.toNat)] }
      ∧ (s.cfg.mode = .accum → s.acc.toNat + 1 < period s.cfg t.tempo.toNat →
          exec .tick t = .next { t with acc := s.acc + 1#16 })
      ∧ (s.cfg.mode = .accum → period s.cfg t.tempo.toNat ≤ s.acc.toNat + 1 →
          ∃ u, exec .tick t = .next u ∧ u.midiPend = s.midiPend + 1#16)

/-- Figures that the spec infers (00_scope.md R7, 42_tempo.md R170 and R178, marked [derived] there): the bounds on
TIMER_HZ under the default TEMPO_MIN and TEMPO_MAX; the periods listed at TIMER_HZ = 250000; from TEMPO = 120, six
WR.APPLY LEFT give 126, and P reads 5208 before and 4960 after; RD.PERIOD is in 1..65535 for every TEMPO in 20..300.
-/
def Obligations.TempoFiguresOfTheSpec : Prop :=
  (∀ c : Config, c.tempoMin = 20 → c.tempoMax = 300 → c.boundary = .beat →
      (legalConfig c = true ↔ 120 ≤ c.timerHz ∧ c.timerHz ≤ 524287))
    ∧ (∀ c : Config, c.timerHz = 250000 →
        [20, 119, 120, 121, 126, 300].map (period c) = [31250, 5252, 5208, 5165, 4960, 2083])
    ∧ (∀ s : State, Ready s → s.tempo = 120#16 → 126 ≤ s.cfg.tempoMax → s.cfg.timerHz = 250000 →
        runOps ([.rdPeriod] ++ List.replicate 6 (.wrApply 0x0001#16) ++ [.rdPeriod]) s
          = .next { s with tempo := 126#16, returned := s.returned ++ [BitVec.ofNat 16 5208, BitVec.ofNat 16 4960] })
    ∧ ∀ s : State, Ready s → s.cfg.tempoMin = 20 → s.cfg.tempoMax = 300 → 20 ≤ s.tempo.toNat → s.tempo.toNat ≤ 300 →
        ∃ x : Word, exec .rdPeriod s = .next { s with returned := s.returned ++ [x] }
          ∧ x.toNat = period s.cfg s.tempo.toNat ∧ 1 ≤ x.toNat ∧ x.toNat ≤ 65535

/-! ### The pulse engine -/

/-- 43_pulse_engine.md R201, R202, R204, R205, R206: with MODE = FIXED a TICK is one sub-pulse; with MODE = ACCUM it
counts in ACC, and is a sub-pulse when the count reaches P(TEMPO), where ACC keeps 0 or the excess. A sub-pulse adds 1
to MIDI_PEND modulo 2^16; at the boundary SUBPULSE returns to 0, BEAT_IND flips, GATE and PHASE become 1; at any other
sub-pulse SUBPULSE rises by 1, GATE and PHASE become 0. Nothing else changes. -/
def Obligations.TickAdvancesThePulseEngine : Prop :=
  ∀ s : State, Ready s →
    (s.cfg.mode = .fixed → exec .tick s = .next (afterSubpulse s s.acc))
      ∧ (s.cfg.mode = .accum → s.acc.toNat + 1 < 60 * s.cfg.timerHz / (s.tempo.toNat * 24) →
          exec .tick s = .next { s with acc := s.acc + 1#16 })
      ∧ (s.cfg.mode = .accum → 60 * s.cfg.timerHz / (s.tempo.toNat * 24) ≤ s.acc.toNat + 1 →
          s.cfg.accReset = .zero → exec .tick s = .next (afterSubpulse s 0#16))
      ∧ (s.cfg.mode = .accum → 60 * s.cfg.timerHz / (s.tempo.toNat * 24) ≤ s.acc.toNat + 1 →
          s.cfg.accReset = .subtract → StateInv s → ∃ a : Word, exec .tick s = .next (afterSubpulse s a)
            ∧ a.toNat = s.acc.toNat + 1 - 60 * s.cfg.timerHz / (s.tempo.toNat * 24))
      ∧ decode 0x300000#24 = .operation .tick

/-- 43_pulse_engine.md R203 (the spec's own inference): with MODE = ACCUM, TEMPO unchanged and ACC = 0 at the start, a
sub-pulse happens every P(TEMPO) TICKs, under either ACC_RESET. -/
def Obligations.OneSubpulseEveryPeriodTicks : Prop :=
  ∀ s : State, Ready s → s.cfg.mode = .accum → s.acc = 0#16 → s.cfg.tempoMin ≤ s.tempo.toNat →
    s.tempo.toNat ≤ s.cfg.tempoMax →
    (∀ n, n < period s.cfg s.tempo.toNat →
        runOps (List.replicate n .tick) s = .next { s with acc := BitVec.ofNat 16 n })
      ∧ ∃ t, runOps (List.replicate (period s.cfg s.tempo.toNat) .tick) s = .next t ∧ t.acc = 0#16
        ∧ t.midiPend = s.midiPend + 1#16

/-- 43_pulse_engine.md R210 (the spec's own inference): from SUBPULSE = 0, BOUNDARY_DIV sub-pulses make one boundary,
and of them exactly the last is one. With MODE = FIXED they are BOUNDARY_DIV TICKs; with MODE = ACCUM, a constant
TEMPO and ACC = 0 at the start, they are BOUNDARY_DIV × P(TEMPO) TICKs. -/
def Obligations.OneBoundaryPerBoundaryDivSubpulses : Prop :=
  ∀ (s : State) (ticksPerSubpulse : Nat), Ready s → s.subpulse = 0#16 →
    (s.cfg.mode = .fixed ∧ ticksPerSubpulse = 1
      ∨ s.cfg.mode = .accum ∧ s.acc = 0#16 ∧ s.cfg.tempoMin ≤ s.tempo.toNat ∧ s.tempo.toNat ≤ s.cfg.tempoMax
        ∧ ticksPerSubpulse = period s.cfg s.tempo.toNat) →
    (∀ n, 1 ≤ n → n < boundaryDiv s.cfg → runOps (List.replicate (n * ticksPerSubpulse) .tick) s
        = .next { s with subpulse := BitVec.ofNat 16 n, midiPend := s.midiPend + BitVec.ofNat 16 n, gate := false,
                         phase := .withinBeat })
      ∧ runOps (List.replicate (boundaryDiv s.cfg * ticksPerSubpulse) .tick) s
        = .next { s with subpulse := 0#16, midiPend := s.midiPend + BitVec.ofNat 16 (boundaryDiv s.cfg),
                         beatInd := !s.beatInd, gate := true, phase := .atBeatBoundary }

/-- 42_tempo.md R177: with MODE = FIXED, TEMPO has no effect on what a TICK does. -/
def Obligations.FixedModeTicksIgnoreTempo : Prop :=
  ∀ (s t : State) (x : Word), Ready s → s.cfg.mode = .fixed → exec .tick s = .next t →
    exec .tick { s with tempo := x } = .next { t with tempo := x }

/-! ### The decoder -/

/-- 41_decoder.md R141: PINS, in every state, by its pseudocode. -/
def Obligations.PinsFollowsItsPseudocode : Prop :=
  (∀ (s : State) (cur : Pins), Ready s →
    exec (.pins cur) s = .next (
      if cur = s.decPrev then { s with decPrev := cur }
      else if s.decTrack = .idle then
        { s with decPrev := cur,
                 decTrack := if cur ^^^ s.decPrev = 0b11#2 then .trackX
                   else if cur ^^^ s.decPrev = 0b10#2 then .trackL else .trackR }
      else if cur = 0b00#2 then
        { s with decPrev := cur, decTrack := .idle,
                 dir := if s.decTrack = .trackL ∧ s.decPrev = 0b01#2 then .left
                   else if s.decTrack = .trackR ∧ s.decPrev = 0b10#2 then .right else s.dir }
      else
        { s with decPrev := cur,
                 decTrack := if cur ^^^ s.decPrev = 0b11#2 then .trackX else s.decTrack }))
    ∧ [0x400000#24, 0x400001#24, 0x400002#24, 0x400003#24].map decode
        = [Instr.pins 0b00#2, .pins 0b01#2, .pins 0b10#2, .pins 0b11#2].map Decoded.operation

/-- 41_decoder.md R142: leaving rest. -/
def Obligations.LeavingRestStartsTracking : Prop :=
  ∀ s : State, Ready s → s.decTrack = .idle → s.decPrev = 0b00#2 →
    exec (.pins 0b10#2) s = .next { s with decPrev := 0b10#2, decTrack := .trackL }
      ∧ exec (.pins 0b01#2) s = .next { s with decPrev := 0b01#2, decTrack := .trackR }
      ∧ exec (.pins 0b11#2) s = .next { s with decPrev := 0b11#2, decTrack := .trackX }
      ∧ exec (.pins 0b00#2) s = .next s

/-- 41_decoder.md R143: a change of both bits in one event starts or turns the tracked rotation into TRACK_X, or, at a
return to rest, ends it without a commit; a TRACK_X rotation never commits and ends at the next return to rest. -/
def Obligations.ATwoBitChangeAborts : Prop :=
  (∀ (s : State) (cur : Pins), Ready s → cur ^^^ s.decPrev = 0b11#2 → s.decTrack = .idle ∨ cur ≠ 0b00#2 →
      exec (.pins cur) s = .next { s with decPrev := cur, decTrack := .trackX })
    ∧ (∀ (s : State) (cur : Pins), Ready s → cur ^^^ s.decPrev = 0b11#2 → s.decTrack ≠ .idle → cur = 0b00#2 →
      exec (.pins cur) s = .next { s with decPrev := cur, decTrack := .idle })
    ∧ ∀ (s : State) (cur : Pins), Ready s → s.decTrack = .trackX → s.decPrev ≠ 0b00#2 →
      exec (.pins cur) s
        = .next { s with decPrev := cur, decTrack := if cur = 0b00#2 then .idle else .trackX }

/-- 41_decoder.md R145: an event without a change, and a single-bit change away from rest, leave the tracking state.
-/
def Obligations.EventsThatKeepTheTrackingState : Prop :=
  (∀ s : State, Ready s → exec (.pins s.decPrev) s = .next s)
    ∧ ∀ (s : State) (cur : Pins), Ready s → s.decTrack ≠ .idle → cur ≠ 0b00#2 →
      cur ^^^ s.decPrev = 0b01#2 ∨ cur ^^^ s.decPrev = 0b10#2 →
      exec (.pins cur) s = .next { s with decPrev := cur }

/-- 41_decoder.md R147: DIR holds one direction: a commit overwrites it, an aborted cycle leaves it. -/
def Obligations.DirHoldsTheLastCommit : Prop :=
  ∀ s : State, Ready s → s.decTrack = .idle → s.decPrev = 0b00#2 →
    (runWords rotL s = .next { s with dir := .left }) ∧ (runWords rotR s = .next { s with dir := .right })
      ∧ (runWords (rotL ++ rotL) s = .next { s with dir := .left })
      ∧ (runWords (rotL ++ rotR) s = .next { s with dir := .right })
      ∧ (runOps (pinEvents [0b10#2, 0b00#2]) s = .next s) ∧ (runOps (pinEvents [0b01#2, 0b00#2]) s = .next s)

/-- 41_decoder.md R144: the return to rest commits LEFT or RIGHT only if the other bit fell last, whatever DIR
held, and else leaves DIR. -/
def Obligations.ReturnToRestCommitsOrLeavesDir : Prop :=
  ∀ s : State, Ready s → s.decTrack ≠ .idle → s.decPrev ≠ 0b00#2 →
    ∃ t, exec (.pins 0b00#2) s = .next t ∧ t = { s with decPrev := 0b00#2, decTrack := .idle, dir := t.dir }
      ∧ (t.dir = .left ∧ s.decTrack = .trackL ∧ s.decPrev = 0b01#2
        ∨ t.dir = .right ∧ s.decTrack = .trackR ∧ s.decPrev = 0b10#2
        ∨ t.dir = s.dir ∧ ¬ (s.decTrack = .trackL ∧ s.decPrev = 0b01#2)
            ∧ ¬ (s.decTrack = .trackR ∧ s.decPrev = 0b10#2))

/-- 41_decoder.md R148, points 1 to 3 (the spec's own inference): clean rotations give exactly one direction, aborted
ones none, and later reads return NONE. -/
def Obligations.CleanAndAbortedRotations : Prop :=
  ∀ s : State, Ready s → s.decTrack = .idle → s.decPrev = 0b00#2 → s.dir = .none →
    (runWords (rotL ++ [encode .rdDir, encode .rdDir]) s
        = .next { s with returned := s.returned ++ [0x0001#16, 0x0000#16] })
      ∧ (runWords (rotR ++ [encode .rdDir, encode .rdDir]) s
        = .next { s with returned := s.returned ++ [0x0002#16, 0x0000#16] })
      ∧ ∀ evs ∈ [[0b10#2, 0b00#2], [0b01#2, 0b00#2], [0b10#2, 0b11#2, 0b10#2, 0b00#2]],
        runOps (pinEvents evs ++ [.rdDir]) s = .next { s with returned := s.returned ++ [0x0000#16] }

/-- 41_decoder.md R148, points 4 and 5 (the spec's own inference): a rest-to-rest cycle of single-bit changes, however
long, commits LEFT exactly when its first change is of A and its last of B, RIGHT exactly when its first is of B and
its last of A, else nothing; a cycle with an event that changes both bits commits nothing. -/
def Obligations.RestToRestCyclesCommitByFirstAndLastChange : Prop :=
  ∀ (s : State) (evs : List Pins), Ready s → s.decTrack = .idle → s.decPrev = 0b00#2 → evs ≠ [] →
    (∀ p ∈ evs, p ≠ 0b00#2) →
    (singleBitChanges 0b00#2 (evs ++ [0b00#2]) = true →
      runOps (pinEvents (evs ++ [0b00#2])) s
        = .next { s with dir := if evs.head? = some 0b10#2 ∧ evs.getLast? = some 0b01#2 then .left
                           else if evs.head? = some 0b01#2 ∧ evs.getLast? = some 0b10#2 then .right else s.dir })
      ∧ (singleBitChanges 0b00#2 (evs ++ [0b00#2]) = false → runOps (pinEvents (evs ++ [0b00#2])) s = .next s)

/-! ### The transmitter -/

/-- 40_bitserial.md R111: WR.TX0_DATA and WR.TX1_DATA start a word on an idle channel, with no line changed and the
other channel as it was; on a busy channel they fault with TX_BUSY. -/
def Obligations.WrTxDataStartsAWord : Prop :=
  (∀ (s : State) (w : Word), Ready s → s.tx0.busy = false → exec (.wrTx0Data w) s
      = .next { s with tx0 := { s.tx0 with shreg := w, pos := 0#6, busy := true } })
    ∧ (∀ (s : State) (w : Word), Ready s → s.tx1.busy = false → exec (.wrTx1Data w) s
        = .next { s with tx1 := { s.tx1 with shreg := w, pos := 0#6, busy := true } })
    ∧ (∀ (s : State) (w : Word), Ready s → s.tx0.busy = true → exec (.wrTx0Data w) s
        = .next { s with fault := faultAfter s (some .txBusy) (encode (.wrTx0Data w)) })
    ∧ (∀ (s : State) (w : Word), Ready s → s.tx1.busy = true → exec (.wrTx1Data w) s
        = .next { s with fault := faultAfter s (some .txBusy) (encode (.wrTx1Data w)) })
    ∧ (∀ w : Word, decode (0x28#8 ++ w) = .operation (.wrTx0Data w) ∧ decode (0x29#8 ++ w) = .operation (.wrTx1Data w))
    ∧ ∀ (c : Config) (ab : Pins), legalConfig c = true →
        ∃ t, runWords [0x28063F#24, encode .rdLines] (State.afterReset c ab) = .next t ∧ t.tx0.busy = true
          ∧ t.tx0.pos = 0#6 ∧ t.tx0.shreg = 0x063F#16 ∧ t.returned = [0x0044#16]

/-- 40_bitserial.md R112, R113 and R115: a TXSTEP of a busy channel makes the line write of its position, and nothing
else of the state changes, for channel 0 and channel 1 alike; on an idle channel it has no step. -/
def Obligations.TxstepMakesTheScheduledLineWrite : Prop :=
  ∀ (s : State) (c : ChannelId) (ch : Channel), Ready s → channel s c = ch → ch.busy = true →
    (ch.pos.toNat = 0 → exec (.txstep c) s = .next (setChannel c { ch with lat := false, pos := 1#6 } s))
      ∧ (∀ j, j ≤ 15 → ch.pos.toNat = 1 + 3 * j → exec (.txstep c) s
          = .next (setChannel c { ch with dat := ch.shreg.getLsbD (15 - j), pos := ch.pos + 1#6 } s))
      ∧ (∀ j, j ≤ 15 → ch.pos.toNat = 2 + 3 * j → exec (.txstep c) s
          = .next (setChannel c { ch with clk := true, pos := ch.pos + 1#6 } s))
      ∧ (∀ j, j ≤ 15 → ch.pos.toNat = 3 + 3 * j → exec (.txstep c) s
          = .next (setChannel c { ch with clk := false, pos := ch.pos + 1#6 } s))
      ∧ (ch.pos.toNat = 49 → exec (.txstep c) s
          = .next (setChannel c { ch with lat := true, last := ch.shreg, busy := false, pos := 0#6 } s))
      ∧ (∀ u : State, Ready u → (channel u c).busy = false → ∀ t, exec (.txstep c) u ≠ .next t)
      ∧ (∀ x : Channel, setChannel .display x s = { s with tx0 := x } ∧ setChannel .cv x s = { s with tx1 := x })
      ∧ decode 0x500000#24 = .operation (.txstep .display) ∧ decode 0x500001#24 = .operation (.txstep .cv)

/-- 40_bitserial.md R118 (the spec's own inference from R113): the line changes of one whole transmission, from an
idle channel with CLK = 0 and LAT = 1: 16 rising and 16 falling clock edges, one falling and one rising latch edge,
and the word's bits MSB first on the data line at the rising clock edges. -/
def Obligations.OneTransmissionMakesExactlyItsLineChanges : Prop :=
  ∀ (s t : State) (c : ChannelId) (w : Word) (r : Receiver), Ready s → (channel s c).busy = false →
    (channel s c).clk = false → (channel s c).lat = true → exec (wrTxData c w) s = .next t →
    ∃ (u : State) (l : LineLog) (q : Receiver), watchSteps c 50 t LineLog.empty r = some (u, l, q)
      ∧ l = { clkRises := 16, clkFalls := 16, latRises := 1, latFalls := 1,
              datEdges := levelChanges (channel s c).dat (bitsMsbFirst w), bits := bitsMsbFirst w }
      ∧ channel t c = { channel s c with busy := true, pos := 0#6, shreg := w }
      ∧ channel u c = { busy := false, pos := 0#6, shreg := w, last := w, clk := false, dat := w.getLsbD 0, lat := true }

/-- 40_bitserial.md R120 (the spec's own inference, with a receiver from general knowledge): the informative receiver
holds the word after one full transmission, whatever it held. -/
def Obligations.TheReceiverHoldsTheTransmittedWord : Prop :=
  ∀ (s t : State) (c : ChannelId) (w : Word) (l : LineLog) (r : Receiver), Ready s → (channel s c).busy = false →
    (channel s c).clk = false → exec (wrTxData c w) s = .next t →
    ∃ (u : State) (m : LineLog) (q : Receiver), watchSteps c 50 t l r = some (u, m, q) ∧ q.out = w

/-- 60_exceptions.md R259 and 70_reset_and_hazards.md R292, in the form that log 14 gives them: runs without end over
words and pauses, and the predicate `Fair`, are the model's choice (DESIGN CHOICE); that a busy channel eventually takes
its next step, and that one is owed where a run ends with a busy channel, is the spec's. In a fair run, and whatever the
other agents do or leave undone, a word at position POS ends with LAST the word sent after exactly 50 − POS steps of its
channel, so within 50, unless a RESET comes before that many. A finite run is fair, in that form, exactly when no
channel is busy at its end. The steps one after the other, with no premise of fairness, change nothing but the channel.
-/
def Obligations.AStartedWordEndsWithinFiftySteps : Prop :=
  (∀ (schedule : Schedule) (run : Nat → State) (c : ChannelId) (n : Nat), Follows schedule run → Fair schedule run →
      Ready (run n) → (channel (run n) c).busy = true → (channel (run n) c).pos.toNat ≤ 49 →
      ∃ k, ((∃ ab, schedule (n + k) = some (encode (.reset ab)))
            ∧ stepsTaken schedule c n k < 50 - (channel (run n) c).pos.toNat)
        ∨ ((channel (run (n + k)) c).busy = false ∧ (channel (run (n + k)) c).last = (channel (run n) c).shreg
            ∧ stepsTaken schedule c n k = 50 - (channel (run n) c).pos.toNat))
    ∧ (∀ (ws : List OpWord) (run : Nat → State) (t : State), Follows (scheduleOf ws) run →
        runWords ws (run 0) = .next t →
        (Fair (scheduleOf ws) run ↔ t.tx0.busy = false ∧ t.tx1.busy = false))
    ∧ ∀ (s : State) (c : ChannelId), Ready s → (channel s c).busy = true → (channel s c).pos.toNat ≤ 49 →
      ∃ t ch, runOps (List.replicate (50 - (channel s c).pos.toNat) (.txstep c)) s = .next t
        ∧ t = setChannel c ch s ∧ ch.busy = false ∧ ch.pos = 0#6 ∧ ch.lat = true ∧ ch.last = (channel s c).shreg
        ∧ ch.shreg = (channel s c).shreg

/-- 40_bitserial.md R119 (the spec's own inference): no operation but TXSTEP c, a write of TXc_DATA and RESET changes
channel c's state or lines. -/
def Obligations.OtherOperationsLeaveAChannelAlone : Prop :=
  ∀ (i : Instr) (c : ChannelId) (s t : State), exec i s = .next t → i ≠ .txstep c → (∀ w, i ≠ wrTxData c w) →
    (∀ ab, i ≠ .reset ab) → channel t c = channel s c

/-! ### Reset -/

/-- 70_reset_and_hazards.md R280, R282 and 10_state.md R53: RESET gives every element its reset value, whatever the
state before (a transmission is abandoned, the lines go to their reset levels), and keeps FAULT. -/
def Obligations.ResetGivesTheResetValues : Prop :=
  (∀ (s : State) (ab : Pins), legalConfig s.cfg = true →
    exec (.reset ab) s = .next {
      cfg := s.cfg, tempo := 120#16, subpulse := 0#16, acc := 0#16, midiPend := 0#16, beatInd := false, gate := false,
      phase := .withinBeat, decPrev := ab, decTrack := if ab = 0b00#2 then .idle else .trackX, dir := .none,
      tx0 := { busy := false, pos := 0#6, shreg := 0x0000#16, last := 0x0000#16, clk := false, dat := false, lat := true },
      tx1 := { busy := false, pos := 0#6, shreg := 0x0000#16, last := 0x0000#16, clk := false, dat := false, lat := true },
      fault := s.fault, resetSeen := true, input := s.input, returned := s.returned })
    ∧ (∀ ab : Pins, decode (0x6#4 ++ 0#18 ++ ab) = .operation (.reset ab))
    ∧ ∀ c : Config, legalConfig c = true → c.mode = .accum → c.boundary = .beat → c.timerHz = 250000 →
        (∃ t, runWords [0x600000#24, 0x100000#24, 0x110000#24, 0x130000#24, 0x1C0000#24] (State.startOfRun c [])
          = .next t ∧ t.returned = [0x0000#16, 0x0078#16, 0x1458#16, 0x0044#16])
        ∧ ∃ t, runWords [0x600001#24, 0x100000#24] (State.startOfRun c []) = .next t ∧ t.returned = [0x00E0#16]

/-- A RESET with the pins ab at the start of a run leaves State.afterReset, and State.reset is that state for `RESET
00` with the standard parameters; the pins 00 and the values of the OPEN parameters are the model's choice (log 2, log
3). -/
def Obligations.StateResetIsTheStateAfterReset : Prop :=
  (∀ (c : Config) (ab : Pins), legalConfig c = true →
      runWords [0x6#4 ++ 0#18 ++ ab] (State.startOfRun c []) = .next (State.afterReset c ab))
    ∧ runWords [0x600000#24] (State.startOfRun Config.standard []) = .next State.reset

/-! ### Invariants and whole-machine rules -/

/-- The invariants hold after a reset, with every legal parameter set and every pin pair. -/
def Obligations.InvariantsHoldAfterReset : Prop :=
  ∀ (c : Config) (ab : Pins), legalConfig c = true →
    StateInv (State.afterReset c ab) ∧ WaveformInv (State.afterReset c ab).tx0 ∧ WaveformInv (State.afterReset c ab).tx1
      ∧ StateInv State.reset

/-- 10_state.md R52 (the spec's own inference), from every state that meets it: a step keeps it; and so every state
reached from RESET satisfies it, whatever the words and their order. -/
def Obligations.StepKeepsTheInvariant : Prop :=
  (∀ s t : State, StateInv s → step s = .next t → StateInv t)
    ∧ ∀ (c : Config) (ws : List OpWord) (t : State), startsWithReset ws = true →
      runWords ws (State.startOfRun c []) = .next t → StateInv t

/-- 40_bitserial.md R114 (the spec's own inference from R113): a step keeps the waveform, so that DAT is stable at the
bit being sent through the whole high phase of its clock pulse. -/
def Obligations.StepKeepsTheWaveform : Prop :=
  ∀ s t : State, WaveformInv s.tx0 → WaveformInv s.tx1 → step s = .next t → WaveformInv t.tx0 ∧ WaveformInv t.tx1

/-- 20_memory.md R68, with the writers of 10_state.md R22: which operations can change which element. -/
def Obligations.ElementsChangeOnlyByTheirWriters : Prop :=
  ∀ (i : Instr) (s t : State), exec i s = .next t → (∀ ab, i ≠ .reset ab) →
    ((∀ d, i ≠ .wrApply d) → t.tempo = s.tempo)
      ∧ (i ≠ .tick → t.subpulse = s.subpulse ∧ t.acc = s.acc ∧ t.beatInd = s.beatInd ∧ t.gate = s.gate
          ∧ t.phase = s.phase)
      ∧ (s.cfg.mode = .fixed → t.acc = s.acc)
      ∧ (i ≠ .tick → i ≠ .rdMidiPend → t.midiPend = s.midiPend)
      ∧ ((∀ cur, i ≠ .pins cur) → t.decPrev = s.decPrev ∧ t.decTrack = s.decTrack)
      ∧ ((∀ cur, i ≠ .pins cur) → i ≠ .rdDir → t.dir = s.dir)
      ∧ ∀ c, ((∀ w, i ≠ wrTxData c w) → (channel t c).shreg = (channel s c).shreg)
          ∧ (i ≠ .txstep c → (channel t c).last = (channel s c).last ∧ (channel t c).clk = (channel s c).clk
              ∧ (channel t c).dat = (channel s c).dat ∧ (channel t c).lat = (channel s c).lat)
          ∧ ((∀ w, i ≠ wrTxData c w) → i ≠ .txstep c →
              (channel t c).busy = (channel s c).busy ∧ (channel t c).pos = (channel s c).pos)

/-- 10_state.md R22: the parameters are configuration; no operation and no step changes them. A step takes one word,
an operation none. -/
def Obligations.ParametersNeverChange : Prop :=
  (∀ (i : Instr) (s t : State), exec i s = .next t → t.cfg = s.cfg ∧ t.input = s.input)
    ∧ ∀ s t : State, step s = .next t → t.cfg = s.cfg ∧ ∃ w, s.input = w :: t.input

/-- 00_scope.md R11 and 60_exceptions.md R251: an operation that is a RD and does not fault returns exactly one value;
every other operation returns none; no value returned is lost. -/
def Obligations.ExactlyTheReadsReturnData : Prop :=
  ∀ (i : Instr) (s t : State), exec i s = .next t →
    if kindOf (encode i) = 0x1#4 ∧ faultOf (encode i) s = none then ∃ x, t.returned = s.returned ++ [x]
    else t.returned = s.returned

/-- 60_exceptions.md R257 (the spec's own inference): TICK and PINS commute, and the steps of the two transmitter
channels commute. R257's 'only for these pairs' is not stated: the rules of the operations make more pairs depend on
their order (TICK with RD.SUBPULSE, RD.ACC or RD.STATUS, PINS with RD.STATUS, TXSTEP c with RD.TXc_LAST or
WR.TXc_DATA), and that the model follows those rules there is its own choice (log 18, DESIGN CHOICE). -/
def Obligations.IndependentAgentsCommute : Prop :=
  (∀ (s : State) (cur : Pins), Ready s → runOps [.tick, .pins cur] s = runOps [.pins cur, .tick] s)
    ∧ ∀ s : State, Ready s → s.tx0.busy = true → s.tx1.busy = true →
        runOps [.txstep .display, .txstep .cv] s = runOps [.txstep .cv, .txstep .display] s

/-- 10_state.md R54 and 60_exceptions.md R265: what RD operations return depends on the readable elements alone, so
FAULT, TX[c].POS and TX[c].SHREG never show in a read; and states that no read tells apart have the same readable
elements. -/
def Obligations.ReadsShowExactlyTheReadableElements : Prop :=
  ∀ s u : State, Ready s → Ready u → s.cfg = u.cfg →
    (hostView s = hostView u ↔
      ∀ a : RegAddr, ∃ s' u', busRead a s = .next s' ∧ busRead a u = .next u' ∧ returnedBy s s' = returnedBy u u')
end

