-- ==== Sys2Proof/Laws/Decode.lean ====
section
/-! SUPPORT. The fields of a word made of fields, and the operation that each address spells. -/

namespace Sys2Proof

@[simp] theorem kindOf_opWord (k : BitVec 4) (a : RegAddr) (d : Word) : kindOf (opWord k a d) = k := by
  unfold kindOf opWord
  ext i hi
  simp only [BitVec.getElem_extractLsb', BitVec.getLsbD_append]
  simp [show ¬ 20 + i < 16 by omega, show ¬ 20 + i - 16 < 4 by omega, show 20 + i - 16 - 4 = i by omega,
    BitVec.getLsbD_eq_getElem hi]

@[simp] theorem addrOf_opWord (k : BitVec 4) (a : RegAddr) (d : Word) : addrOf (opWord k a d) = a := by
  unfold addrOf opWord
  ext i hi
  simp only [BitVec.getElem_extractLsb', BitVec.getLsbD_append]
  simp [show ¬ 16 + i < 16 by omega, show 16 + i - 16 = i by omega, BitVec.getLsbD_eq_getElem hi]
  omega

@[simp] theorem dataOf_opWord (k : BitVec 4) (a : RegAddr) (d : Word) : dataOf (opWord k a d) = d := by
  unfold dataOf opWord
  ext i hi
  simp only [BitVec.getElem_extractLsb', BitVec.getLsbD_append]
  simp [BitVec.getLsbD_eq_getElem hi]
  omega

/-- A word is made of its fields. -/
theorem opWord_fields (w : OpWord) : opWord (kindOf w) (addrOf w) (dataOf w) = w := by
  unfold opWord kindOf addrOf dataOf
  ext i hi
  simp only [BitVec.getElem_append, BitVec.getElem_extractLsb']
  split
  · simp [BitVec.getLsbD_eq_getElem hi]
  · split
    · rw [show 16 + (i - 16) = i by omega, BitVec.getLsbD_eq_getElem hi]
    · rw [show 20 + (i - 16 - 4) = i by omega, BitVec.getLsbD_eq_getElem hi]

/-- The word of the operation that reads address a. -/
theorem encode_rdInstr (a : RegAddr) : encode (rdInstr a) = opWord 0x1#4 a 0#16 := by
  revert a; decide

/-- The word of the operation that writes d to address a. -/
theorem encode_wrInstr (a : RegAddr) (d : Word) : encode (wrInstr a d) = opWord 0x2#4 a d := by
  have h : a = 0x0#4 ∨ a = 0x1#4 ∨ a = 0x2#4 ∨ a = 0x3#4 ∨ a = 0x4#4 ∨ a = 0x5#4 ∨ a = 0x6#4 ∨ a = 0x7#4
      ∨ a = 0x8#4 ∨ a = 0x9#4 ∨ a = 0xA#4 ∨ a = 0xB#4 ∨ a = 0xC#4 ∨ a = 0xD#4 ∨ a = 0xE#4 ∨ a = 0xF#4 := by
    revert a; decide
  rcases h with rfl | rfl | rfl | rfl | rfl | rfl | rfl | rfl | rfl | rfl | rfl | rfl | rfl | rfl | rfl | rfl <;> rfl

/-- The bits of a word made of fields below bit 16 are the data's. -/
theorem extractLsb'_opWord (k : BitVec 4) (a : RegAddr) (d : Word) (m n : Nat) (h : m + n ≤ 16) :
    (opWord k a d).extractLsb' m n = d.extractLsb' m n := by
  unfold opWord
  ext i hi
  simp only [BitVec.getElem_extractLsb', BitVec.getLsbD_append, if_pos (show m + i < 16 by omega)]

/-- DATA[15:2] = 0 says that DATA is below 4. -/
theorem high14_eq_zero_iff (d : Word) : d.extractLsb' 2 14 = 0#14 ↔ d.toNat < 4 := by
  rw [← BitVec.toNat_inj]
  simp [Nat.shiftRight_eq_div_pow]
  omega

/-- DATA[15:1] = 0 says that DATA is below 2. -/
theorem high15_eq_zero_iff (d : Word) : d.extractLsb' 1 15 = 0#15 ↔ d.toNat < 2 := by
  rw [← BitVec.toNat_inj]
  simp [Nat.shiftRight_eq_div_pow]
  omega

/-- The decoder on the fields of an RD word. -/
theorem decode_rdWord (a : RegAddr) (d : Word) : decode (opWord 0x1#4 a d) =
    if d = 0#16 then .operation (rdInstr a) else .refused .rdDataNotZero := by simp [decode]

/-- The decoder on the fields of a WR word. -/
theorem decode_wrWord (a : RegAddr) (d : Word) : decode (opWord 0x2#4 a d) = .operation (wrInstr a d) := by
  simp [decode]

/-- The decoder on the fields of a TICK word. -/
theorem decode_tickWord (a : RegAddr) (d : Word) : decode (opWord 0x3#4 a d) =
    if a ≠ 0#4 then .refused .eventAddrNotZero else if d ≠ 0#16 then .refused .tickDataNotZero
    else .operation .tick := by simp [decode]

/-- The decoder on the fields of a PINS word. -/
theorem decode_pinsWord (a : RegAddr) (d : Word) : decode (opWord 0x4#4 a d) =
    if a ≠ 0#4 then .refused .eventAddrNotZero else if d.extractLsb' 2 14 ≠ 0#14 then .refused .pinBitsNotZero
    else .operation (.pins (d.extractLsb' 0 2)) := by
  simp [decode, extractLsb'_opWord]

/-- The decoder on the fields of a TXSTEP word. -/
theorem decode_txstepWord (a : RegAddr) (d : Word) : decode (opWord 0x5#4 a d) =
    if a ≠ 0#4 then .refused .eventAddrNotZero else if d.extractLsb' 1 15 ≠ 0#15 then .refused .txstepBitsNotZero
    else .operation (.txstep (channelOfBit (d.extractLsb' 0 1))) := by
  simp [decode, extractLsb'_opWord]

/-- The decoder on the fields of a RESET word. -/
theorem decode_resetWord (a : RegAddr) (d : Word) : decode (opWord 0x6#4 a d) =
    if a ≠ 0#4 then .refused .eventAddrNotZero else if d.extractLsb' 2 14 ≠ 0#14 then .refused .pinBitsNotZero
    else .operation (.reset (d.extractLsb' 0 2)) := by
  simp [decode, extractLsb'_opWord]

/-- The decoder on a word of a reserved KIND. -/
theorem decode_reservedWord (k : BitVec 4) (a : RegAddr) (d : Word) (h : k = 0#4 ∨ 7 ≤ k.toNat) :
    decode (opWord k a d) = .refused .reservedKind := by
  unfold decode
  rw [kindOf_opWord]
  split <;> simp_all

/-- The format checks on the fields of a word, where DATA[15:2] and DATA[15:1] are the word's own bits. -/
theorem wellFormedWord_fields (w : OpWord) : wellFormedWord w =
    !((kindOf w == 0x0#4 || decide (0x7 ≤ (kindOf w).toNat)) || (kindOf w == 0x1#4 && dataOf w != 0#16)
      || ([0x3#4, 0x4#4, 0x5#4, 0x6#4].contains (kindOf w) && addrOf w != 0#4)
      || (kindOf w == 0x3#4 && dataOf w != 0#16)
      || ([0x4#4, 0x6#4].contains (kindOf w) && w.extractLsb' 2 14 != 0#14)
      || (kindOf w == 0x5#4 && w.extractLsb' 1 15 != 0#15)) := rfl

end Sys2Proof
end

