-- ==== Sys2Proof/Laws/State.lean ====
section
/-! SUPPORT. One lemma per field per update: what each update of the state does to each field. -/

namespace Sys2Proof.Machine

/-! `busReturn` -/

@[simp] theorem busReturn_cfg (x : Word) (s : State) : (busReturn x s).cfg = s.cfg := rfl
@[simp] theorem busReturn_tempo (x : Word) (s : State) : (busReturn x s).tempo = s.tempo := rfl
@[simp] theorem busReturn_subpulse (x : Word) (s : State) : (busReturn x s).subpulse = s.subpulse := rfl
@[simp] theorem busReturn_acc (x : Word) (s : State) : (busReturn x s).acc = s.acc := rfl
@[simp] theorem busReturn_midiPend (x : Word) (s : State) : (busReturn x s).midiPend = s.midiPend := rfl
@[simp] theorem busReturn_beatInd (x : Word) (s : State) : (busReturn x s).beatInd = s.beatInd := rfl
@[simp] theorem busReturn_gate (x : Word) (s : State) : (busReturn x s).gate = s.gate := rfl
@[simp] theorem busReturn_phase (x : Word) (s : State) : (busReturn x s).phase = s.phase := rfl
@[simp] theorem busReturn_decPrev (x : Word) (s : State) : (busReturn x s).decPrev = s.decPrev := rfl
@[simp] theorem busReturn_decTrack (x : Word) (s : State) : (busReturn x s).decTrack = s.decTrack := rfl
@[simp] theorem busReturn_dir (x : Word) (s : State) : (busReturn x s).dir = s.dir := rfl
@[simp] theorem busReturn_tx0 (x : Word) (s : State) : (busReturn x s).tx0 = s.tx0 := rfl
@[simp] theorem busReturn_tx1 (x : Word) (s : State) : (busReturn x s).tx1 = s.tx1 := rfl
@[simp] theorem busReturn_fault (x : Word) (s : State) : (busReturn x s).fault = s.fault := rfl
@[simp] theorem busReturn_resetSeen (x : Word) (s : State) : (busReturn x s).resetSeen = s.resetSeen := rfl
@[simp] theorem busReturn_input (x : Word) (s : State) : (busReturn x s).input = s.input := rfl
@[simp] theorem busReturn_returned (x : Word) (s : State) : (busReturn x s).returned = s.returned ++ [x] := rfl

/-! `placeWord` -/

@[simp] theorem placeWord_cfg (w : OpWord) (s : State) : (placeWord w s).cfg = s.cfg := rfl
@[simp] theorem placeWord_tempo (w : OpWord) (s : State) : (placeWord w s).tempo = s.tempo := rfl
@[simp] theorem placeWord_subpulse (w : OpWord) (s : State) : (placeWord w s).subpulse = s.subpulse := rfl
@[simp] theorem placeWord_acc (w : OpWord) (s : State) : (placeWord w s).acc = s.acc := rfl
@[simp] theorem placeWord_midiPend (w : OpWord) (s : State) : (placeWord w s).midiPend = s.midiPend := rfl
@[simp] theorem placeWord_beatInd (w : OpWord) (s : State) : (placeWord w s).beatInd = s.beatInd := rfl
@[simp] theorem placeWord_gate (w : OpWord) (s : State) : (placeWord w s).gate = s.gate := rfl
@[simp] theorem placeWord_phase (w : OpWord) (s : State) : (placeWord w s).phase = s.phase := rfl
@[simp] theorem placeWord_decPrev (w : OpWord) (s : State) : (placeWord w s).decPrev = s.decPrev := rfl
@[simp] theorem placeWord_decTrack (w : OpWord) (s : State) : (placeWord w s).decTrack = s.decTrack := rfl
@[simp] theorem placeWord_dir (w : OpWord) (s : State) : (placeWord w s).dir = s.dir := rfl
@[simp] theorem placeWord_tx0 (w : OpWord) (s : State) : (placeWord w s).tx0 = s.tx0 := rfl
@[simp] theorem placeWord_tx1 (w : OpWord) (s : State) : (placeWord w s).tx1 = s.tx1 := rfl
@[simp] theorem placeWord_fault (w : OpWord) (s : State) : (placeWord w s).fault = s.fault := rfl
@[simp] theorem placeWord_resetSeen (w : OpWord) (s : State) : (placeWord w s).resetSeen = s.resetSeen := rfl
@[simp] theorem placeWord_input (w : OpWord) (s : State) : (placeWord w s).input = w :: s.input := rfl
@[simp] theorem placeWord_returned (w : OpWord) (s : State) : (placeWord w s).returned = s.returned := rfl

/-! `applyTempo` -/

@[simp] theorem applyTempo_cfg (d : Direction) (s : State) : (applyTempo d s).cfg = s.cfg := rfl
@[simp] theorem applyTempo_tempo (d : Direction) (s : State) : (applyTempo d s).tempo = BitVec.ofNat 16 (tempoAfter s.cfg s.tempo.toNat d) := rfl
@[simp] theorem applyTempo_subpulse (d : Direction) (s : State) : (applyTempo d s).subpulse = s.subpulse := rfl
@[simp] theorem applyTempo_acc (d : Direction) (s : State) : (applyTempo d s).acc = s.acc := rfl
@[simp] theorem applyTempo_midiPend (d : Direction) (s : State) : (applyTempo d s).midiPend = s.midiPend := rfl
@[simp] theorem applyTempo_beatInd (d : Direction) (s : State) : (applyTempo d s).beatInd = s.beatInd := rfl
@[simp] theorem applyTempo_gate (d : Direction) (s : State) : (applyTempo d s).gate = s.gate := rfl
@[simp] theorem applyTempo_phase (d : Direction) (s : State) : (applyTempo d s).phase = s.phase := rfl
@[simp] theorem applyTempo_decPrev (d : Direction) (s : State) : (applyTempo d s).decPrev = s.decPrev := rfl
@[simp] theorem applyTempo_decTrack (d : Direction) (s : State) : (applyTempo d s).decTrack = s.decTrack := rfl
@[simp] theorem applyTempo_dir (d : Direction) (s : State) : (applyTempo d s).dir = s.dir := rfl
@[simp] theorem applyTempo_tx0 (d : Direction) (s : State) : (applyTempo d s).tx0 = s.tx0 := rfl
@[simp] theorem applyTempo_tx1 (d : Direction) (s : State) : (applyTempo d s).tx1 = s.tx1 := rfl
@[simp] theorem applyTempo_fault (d : Direction) (s : State) : (applyTempo d s).fault = s.fault := rfl
@[simp] theorem applyTempo_resetSeen (d : Direction) (s : State) : (applyTempo d s).resetSeen = s.resetSeen := rfl
@[simp] theorem applyTempo_input (d : Direction) (s : State) : (applyTempo d s).input = s.input := rfl
@[simp] theorem applyTempo_returned (d : Direction) (s : State) : (applyTempo d s).returned = s.returned := rfl

/-! `resetCore` -/

@[simp] theorem resetCore_cfg (ab : Pins) (s : State) : (resetCore ab s).cfg = s.cfg := rfl
@[simp] theorem resetCore_tempo (ab : Pins) (s : State) : (resetCore ab s).tempo = BitVec.ofNat 16 tempoReset := rfl
@[simp] theorem resetCore_subpulse (ab : Pins) (s : State) : (resetCore ab s).subpulse = 0#16 := rfl
@[simp] theorem resetCore_acc (ab : Pins) (s : State) : (resetCore ab s).acc = 0#16 := rfl
@[simp] theorem resetCore_midiPend (ab : Pins) (s : State) : (resetCore ab s).midiPend = 0#16 := rfl
@[simp] theorem resetCore_beatInd (ab : Pins) (s : State) : (resetCore ab s).beatInd = false := rfl
@[simp] theorem resetCore_gate (ab : Pins) (s : State) : (resetCore ab s).gate = false := rfl
@[simp] theorem resetCore_phase (ab : Pins) (s : State) : (resetCore ab s).phase = .withinBeat := rfl
@[simp] theorem resetCore_decPrev (ab : Pins) (s : State) : (resetCore ab s).decPrev = ab := rfl
@[simp] theorem resetCore_decTrack (ab : Pins) (s : State) : (resetCore ab s).decTrack = if ab = 0b00#2 then .idle else .trackX := rfl
@[simp] theorem resetCore_dir (ab : Pins) (s : State) : (resetCore ab s).dir = .none := rfl
@[simp] theorem resetCore_tx0 (ab : Pins) (s : State) : (resetCore ab s).tx0 = idleChannel := rfl
@[simp] theorem resetCore_tx1 (ab : Pins) (s : State) : (resetCore ab s).tx1 = idleChannel := rfl
@[simp] theorem resetCore_fault (ab : Pins) (s : State) : (resetCore ab s).fault = s.fault := rfl
@[simp] theorem resetCore_resetSeen (ab : Pins) (s : State) : (resetCore ab s).resetSeen = true := rfl
@[simp] theorem resetCore_input (ab : Pins) (s : State) : (resetCore ab s).input = s.input := rfl
@[simp] theorem resetCore_returned (ab : Pins) (s : State) : (resetCore ab s).returned = s.returned := rfl

/-! `raiseFault` -/

@[simp] theorem raiseFault_cfg (code : FaultCode) (w : OpWord) (s : State) : (raiseFault code w s).cfg = s.cfg := by
  unfold raiseFault; split <;> simp_all
@[simp] theorem raiseFault_tempo (code : FaultCode) (w : OpWord) (s : State) : (raiseFault code w s).tempo = s.tempo := by
  unfold raiseFault; split <;> simp_all
@[simp] theorem raiseFault_subpulse (code : FaultCode) (w : OpWord) (s : State) : (raiseFault code w s).subpulse = s.subpulse := by
  unfold raiseFault; split <;> simp_all
@[simp] theorem raiseFault_acc (code : FaultCode) (w : OpWord) (s : State) : (raiseFault code w s).acc = s.acc := by
  unfold raiseFault; split <;> simp_all
@[simp] theorem raiseFault_midiPend (code : FaultCode) (w : OpWord) (s : State) : (raiseFault code w s).midiPend = s.midiPend := by
  unfold raiseFault; split <;> simp_all
@[simp] theorem raiseFault_beatInd (code : FaultCode) (w : OpWord) (s : State) : (raiseFault code w s).beatInd = s.beatInd := by
  unfold raiseFault; split <;> simp_all
@[simp] theorem raiseFault_gate (code : FaultCode) (w : OpWord) (s : State) : (raiseFault code w s).gate = s.gate := by
  unfold raiseFault; split <;> simp_all
@[simp] theorem raiseFault_phase (code : FaultCode) (w : OpWord) (s : State) : (raiseFault code w s).phase = s.phase := by
  unfold raiseFault; split <;> simp_all
@[simp] theorem raiseFault_decPrev (code : FaultCode) (w : OpWord) (s : State) : (raiseFault code w s).decPrev = s.decPrev := by
  unfold raiseFault; split <;> simp_all
@[simp] theorem raiseFault_decTrack (code : FaultCode) (w : OpWord) (s : State) : (raiseFault code w s).decTrack = s.decTrack := by
  unfold raiseFault; split <;> simp_all
@[simp] theorem raiseFault_dir (code : FaultCode) (w : OpWord) (s : State) : (raiseFault code w s).dir = s.dir := by
  unfold raiseFault; split <;> simp_all
@[simp] theorem raiseFault_tx0 (code : FaultCode) (w : OpWord) (s : State) : (raiseFault code w s).tx0 = s.tx0 := by
  unfold raiseFault; split <;> simp_all
@[simp] theorem raiseFault_tx1 (code : FaultCode) (w : OpWord) (s : State) : (raiseFault code w s).tx1 = s.tx1 := by
  unfold raiseFault; split <;> simp_all
@[simp] theorem raiseFault_fault (code : FaultCode) (w : OpWord) (s : State) : (raiseFault code w s).fault = s.fault.or (some ⟨code, w⟩) := by
  unfold raiseFault; split <;> simp_all
@[simp] theorem raiseFault_resetSeen (code : FaultCode) (w : OpWord) (s : State) : (raiseFault code w s).resetSeen = s.resetSeen := by
  unfold raiseFault; split <;> simp_all
@[simp] theorem raiseFault_input (code : FaultCode) (w : OpWord) (s : State) : (raiseFault code w s).input = s.input := by
  unfold raiseFault; split <;> simp_all
@[simp] theorem raiseFault_returned (code : FaultCode) (w : OpWord) (s : State) : (raiseFault code w s).returned = s.returned := by
  unfold raiseFault; split <;> simp_all

/-! `setChannel` -/

@[simp] theorem setChannel_cfg (c : ChannelId) (ch : Channel) (s : State) : (setChannel c ch s).cfg = s.cfg := by
  cases c <;> rfl
@[simp] theorem setChannel_tempo (c : ChannelId) (ch : Channel) (s : State) : (setChannel c ch s).tempo = s.tempo := by
  cases c <;> rfl
@[simp] theorem setChannel_subpulse (c : ChannelId) (ch : Channel) (s : State) : (setChannel c ch s).subpulse = s.subpulse := by
  cases c <;> rfl
@[simp] theorem setChannel_acc (c : ChannelId) (ch : Channel) (s : State) : (setChannel c ch s).acc = s.acc := by
  cases c <;> rfl
@[simp] theorem setChannel_midiPend (c : ChannelId) (ch : Channel) (s : State) : (setChannel c ch s).midiPend = s.midiPend := by
  cases c <;> rfl
@[simp] theorem setChannel_beatInd (c : ChannelId) (ch : Channel) (s : State) : (setChannel c ch s).beatInd = s.beatInd := by
  cases c <;> rfl
@[simp] theorem setChannel_gate (c : ChannelId) (ch : Channel) (s : State) : (setChannel c ch s).gate = s.gate := by
  cases c <;> rfl
@[simp] theorem setChannel_phase (c : ChannelId) (ch : Channel) (s : State) : (setChannel c ch s).phase = s.phase := by
  cases c <;> rfl
@[simp] theorem setChannel_decPrev (c : ChannelId) (ch : Channel) (s : State) : (setChannel c ch s).decPrev = s.decPrev := by
  cases c <;> rfl
@[simp] theorem setChannel_decTrack (c : ChannelId) (ch : Channel) (s : State) : (setChannel c ch s).decTrack = s.decTrack := by
  cases c <;> rfl
@[simp] theorem setChannel_dir (c : ChannelId) (ch : Channel) (s : State) : (setChannel c ch s).dir = s.dir := by
  cases c <;> rfl
@[simp] theorem setChannel_tx0 (c : ChannelId) (ch : Channel) (s : State) : (setChannel c ch s).tx0 = if c = .display then ch else s.tx0 := by
  cases c <;> rfl
@[simp] theorem setChannel_tx1 (c : ChannelId) (ch : Channel) (s : State) : (setChannel c ch s).tx1 = if c = .cv then ch else s.tx1 := by
  cases c <;> rfl
@[simp] theorem setChannel_fault (c : ChannelId) (ch : Channel) (s : State) : (setChannel c ch s).fault = s.fault := by
  cases c <;> rfl
@[simp] theorem setChannel_resetSeen (c : ChannelId) (ch : Channel) (s : State) : (setChannel c ch s).resetSeen = s.resetSeen := by
  cases c <;> rfl
@[simp] theorem setChannel_input (c : ChannelId) (ch : Channel) (s : State) : (setChannel c ch s).input = s.input := by
  cases c <;> rfl
@[simp] theorem setChannel_returned (c : ChannelId) (ch : Channel) (s : State) : (setChannel c ch s).returned = s.returned := by
  cases c <;> rfl

/-! `subpulseStep`: the fields it leaves; what it does to the others is `subpulseStep_eq` in Laws/Ops.lean. -/

@[simp] theorem subpulseStep_cfg (s : State) : (subpulseStep s).cfg = s.cfg := by
  simp only [subpulseStep, subpulseFlags]; split <;> rfl
@[simp] theorem subpulseStep_tempo (s : State) : (subpulseStep s).tempo = s.tempo := by
  simp only [subpulseStep, subpulseFlags]; split <;> rfl
@[simp] theorem subpulseStep_acc (s : State) : (subpulseStep s).acc = s.acc := by
  simp only [subpulseStep, subpulseFlags]; split <;> rfl
@[simp] theorem subpulseStep_decPrev (s : State) : (subpulseStep s).decPrev = s.decPrev := by
  simp only [subpulseStep, subpulseFlags]; split <;> rfl
@[simp] theorem subpulseStep_decTrack (s : State) : (subpulseStep s).decTrack = s.decTrack := by
  simp only [subpulseStep, subpulseFlags]; split <;> rfl
@[simp] theorem subpulseStep_dir (s : State) : (subpulseStep s).dir = s.dir := by
  simp only [subpulseStep, subpulseFlags]; split <;> rfl
@[simp] theorem subpulseStep_tx0 (s : State) : (subpulseStep s).tx0 = s.tx0 := by
  simp only [subpulseStep, subpulseFlags]; split <;> rfl
@[simp] theorem subpulseStep_tx1 (s : State) : (subpulseStep s).tx1 = s.tx1 := by
  simp only [subpulseStep, subpulseFlags]; split <;> rfl
@[simp] theorem subpulseStep_fault (s : State) : (subpulseStep s).fault = s.fault := by
  simp only [subpulseStep, subpulseFlags]; split <;> rfl
@[simp] theorem subpulseStep_resetSeen (s : State) : (subpulseStep s).resetSeen = s.resetSeen := by
  simp only [subpulseStep, subpulseFlags]; split <;> rfl
@[simp] theorem subpulseStep_input (s : State) : (subpulseStep s).input = s.input := by
  simp only [subpulseStep, subpulseFlags]; split <;> rfl
@[simp] theorem subpulseStep_returned (s : State) : (subpulseStep s).returned = s.returned := by
  simp only [subpulseStep, subpulseFlags]; split <;> rfl

/-! `timerEvent`: the fields it leaves. -/

@[simp] theorem accumTick_cfg (s : State) : (accumTick s).cfg = s.cfg := by
  simp only [accumTick]; split <;> simp
@[simp] theorem timerEvent_cfg (s : State) : (timerEvent s).cfg = s.cfg := by
  unfold timerEvent; split <;> simp
@[simp] theorem accumTick_tempo (s : State) : (accumTick s).tempo = s.tempo := by
  simp only [accumTick]; split <;> simp
@[simp] theorem timerEvent_tempo (s : State) : (timerEvent s).tempo = s.tempo := by
  unfold timerEvent; split <;> simp
@[simp] theorem accumTick_decPrev (s : State) : (accumTick s).decPrev = s.decPrev := by
  simp only [accumTick]; split <;> simp
@[simp] theorem timerEvent_decPrev (s : State) : (timerEvent s).decPrev = s.decPrev := by
  unfold timerEvent; split <;> simp
@[simp] theorem accumTick_decTrack (s : State) : (accumTick s).decTrack = s.decTrack := by
  simp only [accumTick]; split <;> simp
@[simp] theorem timerEvent_decTrack (s : State) : (timerEvent s).decTrack = s.decTrack := by
  unfold timerEvent; split <;> simp
@[simp] theorem accumTick_dir (s : State) : (accumTick s).dir = s.dir := by
  simp only [accumTick]; split <;> simp
@[simp] theorem timerEvent_dir (s : State) : (timerEvent s).dir = s.dir := by
  unfold timerEvent; split <;> simp
@[simp] theorem accumTick_tx0 (s : State) : (accumTick s).tx0 = s.tx0 := by
  simp only [accumTick]; split <;> simp
@[simp] theorem timerEvent_tx0 (s : State) : (timerEvent s).tx0 = s.tx0 := by
  unfold timerEvent; split <;> simp
@[simp] theorem accumTick_tx1 (s : State) : (accumTick s).tx1 = s.tx1 := by
  simp only [accumTick]; split <;> simp
@[simp] theorem timerEvent_tx1 (s : State) : (timerEvent s).tx1 = s.tx1 := by
  unfold timerEvent; split <;> simp
@[simp] theorem accumTick_fault (s : State) : (accumTick s).fault = s.fault := by
  simp only [accumTick]; split <;> simp
@[simp] theorem timerEvent_fault (s : State) : (timerEvent s).fault = s.fault := by
  unfold timerEvent; split <;> simp
@[simp] theorem accumTick_resetSeen (s : State) : (accumTick s).resetSeen = s.resetSeen := by
  simp only [accumTick]; split <;> simp
@[simp] theorem timerEvent_resetSeen (s : State) : (timerEvent s).resetSeen = s.resetSeen := by
  unfold timerEvent; split <;> simp
@[simp] theorem accumTick_input (s : State) : (accumTick s).input = s.input := by
  simp only [accumTick]; split <;> simp
@[simp] theorem timerEvent_input (s : State) : (timerEvent s).input = s.input := by
  unfold timerEvent; split <;> simp
@[simp] theorem accumTick_returned (s : State) : (accumTick s).returned = s.returned := by
  simp only [accumTick]; split <;> simp
@[simp] theorem timerEvent_returned (s : State) : (timerEvent s).returned = s.returned := by
  unfold timerEvent; split <;> simp

/-! `pinChange`: DEC_PREV, and the fields it leaves. -/

@[simp] theorem pinChange_cfg (cur : Pins) (s : State) : (pinChange cur s).cfg = s.cfg := by
  unfold pinChange; dsimp only; repeat' split
  all_goals rfl
@[simp] theorem pinChange_tempo (cur : Pins) (s : State) : (pinChange cur s).tempo = s.tempo := by
  unfold pinChange; dsimp only; repeat' split
  all_goals rfl
@[simp] theorem pinChange_subpulse (cur : Pins) (s : State) : (pinChange cur s).subpulse = s.subpulse := by
  unfold pinChange; dsimp only; repeat' split
  all_goals rfl
@[simp] theorem pinChange_acc (cur : Pins) (s : State) : (pinChange cur s).acc = s.acc := by
  unfold pinChange; dsimp only; repeat' split
  all_goals rfl
@[simp] theorem pinChange_midiPend (cur : Pins) (s : State) : (pinChange cur s).midiPend = s.midiPend := by
  unfold pinChange; dsimp only; repeat' split
  all_goals rfl
@[simp] theorem pinChange_beatInd (cur : Pins) (s : State) : (pinChange cur s).beatInd = s.beatInd := by
  unfold pinChange; dsimp only; repeat' split
  all_goals rfl
@[simp] theorem pinChange_gate (cur : Pins) (s : State) : (pinChange cur s).gate = s.gate := by
  unfold pinChange; dsimp only; repeat' split
  all_goals rfl
@[simp] theorem pinChange_phase (cur : Pins) (s : State) : (pinChange cur s).phase = s.phase := by
  unfold pinChange; dsimp only; repeat' split
  all_goals rfl
@[simp] theorem pinChange_decPrev (cur : Pins) (s : State) : (pinChange cur s).decPrev = cur := by
  unfold pinChange; dsimp only; repeat' split
  all_goals rfl
@[simp] theorem pinChange_tx0 (cur : Pins) (s : State) : (pinChange cur s).tx0 = s.tx0 := by
  unfold pinChange; dsimp only; repeat' split
  all_goals rfl
@[simp] theorem pinChange_tx1 (cur : Pins) (s : State) : (pinChange cur s).tx1 = s.tx1 := by
  unfold pinChange; dsimp only; repeat' split
  all_goals rfl
@[simp] theorem pinChange_fault (cur : Pins) (s : State) : (pinChange cur s).fault = s.fault := by
  unfold pinChange; dsimp only; repeat' split
  all_goals rfl
@[simp] theorem pinChange_resetSeen (cur : Pins) (s : State) : (pinChange cur s).resetSeen = s.resetSeen := by
  unfold pinChange; dsimp only; repeat' split
  all_goals rfl
@[simp] theorem pinChange_input (cur : Pins) (s : State) : (pinChange cur s).input = s.input := by
  unfold pinChange; dsimp only; repeat' split
  all_goals rfl
@[simp] theorem pinChange_returned (cur : Pins) (s : State) : (pinChange cur s).returned = s.returned := by
  unfold pinChange; dsimp only; repeat' split
  all_goals rfl

/-! The two channels. -/

@[simp] theorem channel_display (s : State) : channel s .display = s.tx0 := rfl
@[simp] theorem channel_cv (s : State) : channel s .cv = s.tx1 := rfl
@[simp] theorem setChannel_display (ch : Channel) (s : State) : setChannel .display ch s = { s with tx0 := ch } := rfl
@[simp] theorem setChannel_cv (ch : Channel) (s : State) : setChannel .cv ch s = { s with tx1 := ch } := rfl

/-- Reading a channel after writing it, or the other one. -/
theorem channel_setChannel (c b : ChannelId) (ch : Channel) (s : State) :
    channel (setChannel c ch s) b = if b = c then ch else channel s b := by
  cases c <;> cases b <;> rfl

@[simp] theorem channel_setChannel_same (c : ChannelId) (ch : Channel) (s : State) :
    channel (setChannel c ch s) c = ch := by cases c <;> rfl

/-- Writing one channel twice is writing it once. -/
@[simp] theorem setChannel_setChannel (c : ChannelId) (x y : Channel) (s : State) :
    setChannel c x (setChannel c y s) = setChannel c x s := by cases c <;> rfl

/-- Writing back what a channel holds changes nothing. -/
@[simp] theorem setChannel_channel (c : ChannelId) (s : State) : setChannel c (channel s c) s = s := by
  cases c <;> rfl

end Sys2Proof.Machine
end

