-- ==== Sys2Proof/Laws/Ops.lean ====
section
/-! SUPPORT. What each shared operation can do, said once. -/

namespace Sys2Proof.Machine

/-- P(t) decreases as t grows. -/
theorem period_antitone (c : Config) {t u : Nat} (ht : 1 ≤ t) (h : t ≤ u) : period c u ≤ period c t :=
  Nat.div_le_div_left (Nat.mul_le_mul_right _ h) (Nat.mul_pos ht (by decide))

/-- The four conditions of a legal parameter set. -/
theorem legalConfig_iff (c : Config) : legalConfig c = true ↔
    (1 ≤ c.tempoMin ∧ c.tempoMin ≤ tempoReset ∧ tempoReset ≤ c.tempoMax ∧ c.tempoMax ≤ 65535)
      ∧ period c c.tempoMin ≤ 65535 ∧ 1 ≤ period c c.tempoMax ∧ legalMeasure c = true := by
  simp only [legalConfig, Bool.and_eq_true, decide_eq_true_eq]
  tauto

/-- BOUNDARY_DIV of a legal parameter set is in 24..65535. -/
theorem boundaryDiv_bounds {c : Config} (h : legalConfig c = true) : 24 ≤ boundaryDiv c ∧ boundaryDiv c ≤ 65535 := by
  obtain ⟨-, -, -, h⟩ := (legalConfig_iff c).1 h
  cases hb : c.boundary
  · simp [boundaryDiv, hb, subpulsesPerBeat]
  · simp only [legalMeasure, hb] at h
    have h := of_decide_eq_true h
    simp only [boundaryDiv, hb, subpulsesPerBeat] at h ⊢
    omega

/-- Under an illegal parameter set the answer is the refusal. -/
theorem underLegal_of_not {s : State} {k : Result} (h : legalConfig s.cfg = false) :
    underLegal s k = .refused .illegalParameters := by simp [underLegal, h]

/-- Under a legal parameter set the answer is the operation's. -/
theorem underLegal_of {s : State} {k : Result} (h : legalConfig s.cfg = true) : underLegal s k = k := by
  simp [underLegal, h]

/-- After the first RESET an operation has its own effect. -/
theorem onceReset_of_ready {i : Instr} {s : State} {k : Result} (h : Ready s) : onceReset i s k = k := by
  simp [onceReset, underLegal, h.1, h.2]

/-- Before the first RESET an operation faults with NO_RESET. -/
theorem onceReset_before {i : Instr} {s : State} {k : Result} (h : legalConfig s.cfg = true)
    (hr : s.resetSeen = false) : onceReset i s k = .next (raiseFault .noReset (encode i) s) := by
  simp [onceReset, underLegal, h, hr]

/-- Everything `onceReset` can do when it answers a next state. -/
theorem onceReset_next {i : Instr} {s t : State} {k : Result} (h : onceReset i s k = .next t) :
    legalConfig s.cfg = true
      ∧ (s.resetSeen = false ∧ t = raiseFault .noReset (encode i) s ∨ s.resetSeen = true ∧ k = .next t) := by
  unfold onceReset underLegal at h
  cases hl : legalConfig s.cfg <;> cases hr : s.resetSeen <;> simp_all

/-- Everything `underLegal` can do when it answers a next state. -/
theorem underLegal_next {s t : State} {k : Result} (h : underLegal s k = .next t) :
    legalConfig s.cfg = true ∧ k = .next t := by
  unfold underLegal at h
  cases hl : legalConfig s.cfg <;> simp_all

/-- `raiseFault` as a record update. -/
theorem raiseFault_eq (code : FaultCode) (w : OpWord) (s : State) :
    raiseFault code w s = { s with fault := faultAfter s (some code) w } := by
  obtain ⟨_, _, _, _, _, _, _, _, _, _, _, _, _, f, _, _, _⟩ := s
  cases f <;> rfl

/-- `raiseFault` keeps a fault already recorded, and then changes nothing. -/
theorem raiseFault_of_some {code : FaultCode} {w : OpWord} {s : State} {f : FaultRecord} (h : s.fault = some f) :
    raiseFault code w s = s := by simp [raiseFault, h]

/-- `raiseFault` records a first fault. -/
theorem raiseFault_of_none {code : FaultCode} {w : OpWord} {s : State} (h : s.fault = none) :
    raiseFault code w s = { s with fault := some ⟨code, w⟩ } := by simp [raiseFault, h]

/-- A sub-pulse, in the terms of `afterSubpulse`. -/
theorem subpulseStep_eq (s : State) (a : Word) : subpulseStep { s with acc := a } = afterSubpulse s a := by
  have hm : BitVec.ofNat 16 ((s.midiPend.toNat + 1) % 65536) = s.midiPend + 1#16 := by
    apply BitVec.eq_of_toNat_eq; simp
  have hs : BitVec.ofNat 16 (s.subpulse.toNat + 1) = s.subpulse + 1#16 := by
    apply BitVec.eq_of_toNat_eq; simp
  have hd : boundaryDiv s.cfg = if s.cfg.boundary = .beat then 24 else 24 * s.cfg.beatsPerMeasure := by
    unfold boundaryDiv; cases s.cfg.boundary <;> simp [subpulsesPerBeat]
  unfold subpulseStep afterSubpulse subpulseFlags nextSubpulse
  simp only [hm, hs, hd]
  split <;> simp_all

/-- A count in ACC, as BitVec addition. -/
theorem ofNat_toNat_succ (x : Word) : BitVec.ofNat 16 (x.toNat + 1) = x + 1#16 := by
  apply BitVec.eq_of_toNat_eq; simp

/-- What TICK does to the state, by mode and threshold. -/
theorem timerEvent_eq (s : State) : timerEvent s =
    if s.cfg.mode = .fixed then afterSubpulse s s.acc
    else if period s.cfg s.tempo.toNat ≤ s.acc.toNat + 1 then
      afterSubpulse s (accAtThreshold s.cfg.accReset (s.acc.toNat + 1) (period s.cfg s.tempo.toNat))
    else { s with acc := s.acc + 1#16 } := by
  unfold timerEvent accumTick
  cases hm : s.cfg.mode
  · simp only [reduceCtorEq, if_false]
    split
    · exact subpulseStep_eq ..
    · rw [ofNat_toNat_succ]
  · simp only [if_true]
    exact subpulseStep_eq s s.acc

/-- The tempo after a direction stays within its bounds (42_tempo.md R171). -/
theorem tempoAfter_bounds {c : Config} (h : legalConfig c = true) {t : Nat} (h1 : c.tempoMin ≤ t)
    (h2 : t ≤ c.tempoMax) (d : Direction) : c.tempoMin ≤ tempoAfter c t d ∧ tempoAfter c t d ≤ c.tempoMax := by
  obtain ⟨⟨-, h3, h4, -⟩, -⟩ := (legalConfig_iff c).1 h
  cases d <;> simp only [tempoAfter, tempoStep, tempoReset] at * <;> omega

/-- The tempo after a direction fits its 16-bit register (42_tempo.md R171). -/
theorem tempoAfter_fits {c : Config} (h : legalConfig c = true) (t : Word) (d : Direction) :
    tempoAfter c t.toNat d < 65536 := by
  obtain ⟨⟨-, h3, h4, h5⟩, -⟩ := (legalConfig_iff c).1 h
  have := t.isLt
  cases d <;> simp only [tempoAfter, tempoStep, tempoReset] at * <;> omega

/-- P(t) of a legal parameter set is in 1..65535 for every legal tempo (42_tempo.md R170). -/
theorem period_bounds {c : Config} (h : legalConfig c = true) {t : Nat} (h1 : c.tempoMin ≤ t)
    (h2 : t ≤ c.tempoMax) : 1 ≤ period c t ∧ period c t ≤ 65535 := by
  obtain ⟨⟨hm, -, -, -⟩, hp, hq, -⟩ := (legalConfig_iff c).1 h
  exact ⟨hq.trans (period_antitone c (hm.trans h1) h2), (period_antitone c hm h1).trans hp⟩

end Sys2Proof.Machine
end

