-- ==== Sys2Proof/Laws/Exec.lean ====
section
/-! SUPPORT. What exec can do, said once: its inversion lemma `exec_next`, from which the invariants and the
whole-machine rules follow, and the equation of each operation after the first RESET. -/

namespace Sys2Proof.Machine

/-- The effects an operation can have when exec answers a next state. -/
inductive Effect : Instr → State → State → Prop where
  | fault (i : Instr) (s : State) (code : FaultCode) (h : faultOf (encode i) s = some code) :
      Effect i s (raiseFault code (encode i) s)
  | reset (ab : Pins) (s : State) : Effect (.reset ab) s (resetCore ab s)
  | rdStatus (s : State) (h : Ready s) : Effect .rdStatus s (busReturn (statusWord s) s)
  | rdTempo (s : State) (h : Ready s) : Effect .rdTempo s (busReturn s.tempo s)
  | rdPeriod (s : State) (h : Ready s) :
      Effect .rdPeriod s (busReturn (BitVec.ofNat 16 (period s.cfg s.tempo.toNat)) s)
  | rdSubpulse (s : State) (h : Ready s) : Effect .rdSubpulse s (busReturn s.subpulse s)
  | rdAcc (s : State) (h : Ready s) : Effect .rdAcc s (busReturn s.acc s)
  | rdMidiPend (s : State) (h : Ready s) : Effect .rdMidiPend s (busReturn s.midiPend { s with midiPend := 0#16 })
  | rdDir (s : State) (h : Ready s) : Effect .rdDir s (busReturn (zext16 (dirCode s.dir)) { s with dir := .none })
  | rdTx0Last (s : State) (h : Ready s) : Effect .rdTx0Last s (busReturn s.tx0.last s)
  | rdTx1Last (s : State) (h : Ready s) : Effect .rdTx1Last s (busReturn s.tx1.last s)
  | rdLines (s : State) (h : Ready s) : Effect .rdLines s (busReturn (linesWord s) s)
  | wrApply (d : Word) (dir : Direction) (s : State) (h : Ready s) (hd : applyDirection d = some dir) :
      Effect (.wrApply d) s (applyTempo dir s)
  | wrTx0Data (w : Word) (s : State) (h : Ready s) (hb : s.tx0.busy = false) :
      Effect (.wrTx0Data w) s (setChannel .display (startWord w s.tx0) s)
  | wrTx1Data (w : Word) (s : State) (h : Ready s) (hb : s.tx1.busy = false) :
      Effect (.wrTx1Data w) s (setChannel .cv (startWord w s.tx1) s)
  | tick (s : State) (h : Ready s) : Effect .tick s (timerEvent s)
  | pins (cur : Pins) (s : State) (h : Ready s) : Effect (.pins cur) s (pinChange cur s)
  | txstep (c : ChannelId) (s : State) (h : Ready s) (hb : (channel s c).busy = true) :
      Effect (.txstep c) s (setChannel c (lineWrite (channel s c)) s)

/-- The fault that the illegal accesses and the reserved or busy writes raise is the table's. -/
theorem faultOf_onceReset {i : Instr} {s : State} (hr : s.resetSeen = false) (hk : kindOf (encode i) ≠ 0x6#4) :
    faultOf (encode i) s = some .noReset := by simp [faultOf, hr, hk]

/-- An operation under `onceReset` answers a next state by a NO_RESET fault or by its own effect. -/
theorem effect_of_onceReset {i : Instr} {s t : State} {k : Result} (hk : kindOf (encode i) ≠ 0x6#4)
    (h : onceReset i s k = .next t) (hown : Ready s → k = .next t → Effect i s t) : Effect i s t := by
  obtain ⟨hl, ⟨hr, rfl⟩ | ⟨hr, ht⟩⟩ := onceReset_next h
  · exact .fault i s .noReset (faultOf_onceReset hr hk)
  · exact hown ⟨hl, hr⟩ ht

/-- An illegal bus access answers only the fault of the table. -/
theorem effect_of_alwaysFaults {i : Instr} {s t : State} {code : FaultCode} (hk : kindOf (encode i) ≠ 0x6#4)
    (hf : tableFault (encode i) s = some code) (h : alwaysFaults code i s = .next t) : Effect i s t := by
  refine effect_of_onceReset hk h fun hs ht => ?_
  cases ht
  exact .fault i s code (by simp [faultOf, hs.2, hf])

/-- The direction that WR.APPLY reads, by its data as a number. -/
theorem applyDirection_eq (d : Word) : applyDirection d =
    if d.toNat = 0 then some .none else if d.toNat = 1 then some .left else if d.toNat = 2 then some .right
    else none := by
  have h1 : d.extractLsb' 2 14 = 0#14 ↔ d.toNat < 4 := by
    constructor
    · intro h
      have := congrArg BitVec.toNat h
      simp [Nat.shiftRight_eq_div_pow] at this
      omega
    · intro h
      apply BitVec.eq_of_toNat_eq
      simp [Nat.shiftRight_eq_div_pow]
      omega
  have h2 : ∀ n : Nat, n < 4 → (d.extractLsb' 0 2 = BitVec.ofNat 2 n ↔ d.toNat % 4 = n) := by
    intro n hn
    constructor
    · intro h
      have := congrArg BitVec.toNat h
      simpa [Nat.mod_eq_of_lt hn] using this
    · intro h
      apply BitVec.eq_of_toNat_eq
      simp [Nat.mod_eq_of_lt hn, h]
  have e0 := h2 0 (by decide)
  have e1 := h2 1 (by decide)
  have e2 := h2 2 (by decide)
  unfold applyDirection
  simp only [ne_eq, h1, e0, e1, e2]
  repeat' split
  all_goals first
    | rfl
    | omega

/-- Everything exec can do when it answers a next state: the parameter set is legal, and the new state is one of the
effects. -/
theorem exec_next {i : Instr} {s t : State} (h : exec i s = .next t) : legalConfig s.cfg = true ∧ Effect i s t := by
  cases i with
  | reset ab =>
    obtain ⟨hl, ht⟩ := underLegal_next h
    cases ht
    exact ⟨hl, .reset ab s⟩
  | rdStatus => exact ⟨(onceReset_next h).1, effect_of_onceReset (by decide) h fun hs ht => by cases ht; exact .rdStatus s hs⟩
  | rdTempo => exact ⟨(onceReset_next h).1, effect_of_onceReset (by decide) h fun hs ht => by cases ht; exact .rdTempo s hs⟩
  | rdPeriod => exact ⟨(onceReset_next h).1, effect_of_onceReset (by decide) h fun hs ht => by cases ht; exact .rdPeriod s hs⟩
  | rdSubpulse =>
    exact ⟨(onceReset_next h).1, effect_of_onceReset (by decide) h fun hs ht => by cases ht; exact .rdSubpulse s hs⟩
  | rdAcc => exact ⟨(onceReset_next h).1, effect_of_onceReset (by decide) h fun hs ht => by cases ht; exact .rdAcc s hs⟩
  | rdMidiPend =>
    exact ⟨(onceReset_next h).1, effect_of_onceReset (by decide) h fun hs ht => by cases ht; exact .rdMidiPend s hs⟩
  | rdDir => exact ⟨(onceReset_next h).1, effect_of_onceReset (by decide) h fun hs ht => by cases ht; exact .rdDir s hs⟩
  | rdTx0Last =>
    exact ⟨(onceReset_next h).1, effect_of_onceReset (by decide) h fun hs ht => by cases ht; exact .rdTx0Last s hs⟩
  | rdTx1Last =>
    exact ⟨(onceReset_next h).1, effect_of_onceReset (by decide) h fun hs ht => by cases ht; exact .rdTx1Last s hs⟩
  | rdLines => exact ⟨(onceReset_next h).1, effect_of_onceReset (by decide) h fun hs ht => by cases ht; exact .rdLines s hs⟩
  | wrApply d =>
    refine ⟨(onceReset_next h).1, effect_of_onceReset (by simp [encode]) h fun hs ht => ?_⟩
    split at ht
    · rename_i dir hd
      cases ht
      exact .wrApply d dir s hs hd
    · rename_i hd
      cases ht
      have h3 : 3 ≤ d.toNat := by
        rw [applyDirection_eq] at hd
        repeat' split at hd
        all_goals first
          | omega
          | cases hd
      exact .fault _ s .applyReserved (by simp [faultOf, hs.2, encode, tableFault, writeFault, accessOf, h3])
  | wrTx0Data d =>
    refine ⟨(onceReset_next h).1, effect_of_onceReset (by simp [encode]) h fun hs ht => ?_⟩
    cases hb : s.tx0.busy <;> simp only [channel_display, hb, if_true, if_false, Bool.false_eq_true] at ht <;> cases ht
    · exact .wrTx0Data d s hs hb
    · exact .fault _ s .txBusy (by simp [faultOf, hs.2, encode, tableFault, writeFault, accessOf, hb])
  | wrTx1Data d =>
    refine ⟨(onceReset_next h).1, effect_of_onceReset (by simp [encode]) h fun hs ht => ?_⟩
    cases hb : s.tx1.busy <;> simp only [channel_cv, hb, if_true, if_false, Bool.false_eq_true] at ht <;> cases ht
    · exact .wrTx1Data d s hs hb
    · exact .fault _ s .txBusy (by simp [faultOf, hs.2, encode, tableFault, writeFault, accessOf, hb])
  | tick => exact ⟨(onceReset_next h).1, effect_of_onceReset (by decide) h fun hs ht => by cases ht; exact .tick s hs⟩
  | pins cur =>
    exact ⟨(onceReset_next h).1, effect_of_onceReset (by simp [encode]) h fun hs ht => by cases ht; exact .pins cur s hs⟩
  | txstep c =>
    refine ⟨(onceReset_next h).1, effect_of_onceReset (by simp [encode]) h fun hs ht => ?_⟩
    cases hb : (channel s c).busy <;> simp only [hb, if_true, if_false, Bool.false_eq_true] at ht <;> cases ht
    exact .txstep c s hs hb
  | rdApply | rdTx0Data | rdTx1Data | rdUnmappedD | rdUnmappedE | rdUnmappedF =>
    exact ⟨(onceReset_next h).1, effect_of_alwaysFaults (by decide) rfl h⟩
  | wrStatus d | wrTempo d | wrPeriod d | wrSubpulse d | wrAcc d | wrMidiPend d | wrDir d | wrTx0Last d | wrTx1Last d
  | wrLines d | wrUnmappedD d | wrUnmappedE d | wrUnmappedF d =>
    exact ⟨(onceReset_next h).1,
      effect_of_alwaysFaults (by simp [encode]) (by simp [encode, tableFault, accessOf]) h⟩

/-! Each operation after the first RESET. -/

variable {s : State}

theorem exec_rdStatus (h : Ready s) : exec .rdStatus s = .next (busReturn (statusWord s) s) := onceReset_of_ready h
theorem exec_rdTempo (h : Ready s) : exec .rdTempo s = .next (busReturn s.tempo s) := onceReset_of_ready h
theorem exec_rdPeriod (h : Ready s) :
    exec .rdPeriod s = .next (busReturn (BitVec.ofNat 16 (period s.cfg s.tempo.toNat)) s) := onceReset_of_ready h
theorem exec_rdSubpulse (h : Ready s) : exec .rdSubpulse s = .next (busReturn s.subpulse s) := onceReset_of_ready h
theorem exec_rdAcc (h : Ready s) : exec .rdAcc s = .next (busReturn s.acc s) := onceReset_of_ready h
theorem exec_rdMidiPend (h : Ready s) :
    exec .rdMidiPend s = .next (busReturn s.midiPend { s with midiPend := 0#16 }) := onceReset_of_ready h
theorem exec_rdDir (h : Ready s) :
    exec .rdDir s = .next (busReturn (zext16 (dirCode s.dir)) { s with dir := .none }) := onceReset_of_ready h
theorem exec_rdTx0Last (h : Ready s) : exec .rdTx0Last s = .next (busReturn s.tx0.last s) := onceReset_of_ready h
theorem exec_rdTx1Last (h : Ready s) : exec .rdTx1Last s = .next (busReturn s.tx1.last s) := onceReset_of_ready h
theorem exec_rdLines (h : Ready s) : exec .rdLines s = .next (busReturn (linesWord s) s) := onceReset_of_ready h
theorem exec_tick (h : Ready s) : exec .tick s = .next (timerEvent s) := onceReset_of_ready h
theorem exec_pins (h : Ready s) (cur : Pins) : exec (.pins cur) s = .next (pinChange cur s) := onceReset_of_ready h

theorem exec_wrApply (h : Ready s) {d : Word} {dir : Direction} (hd : applyDirection d = some dir) :
    exec (.wrApply d) s = .next (applyTempo dir s) := by
  refine (onceReset_of_ready h).trans ?_
  simp [hd]

theorem exec_wrApply_reserved (h : Ready s) {d : Word} (hd : applyDirection d = none) :
    exec (.wrApply d) s = .next (raiseFault .applyReserved (encode (.wrApply d)) s) := by
  refine (onceReset_of_ready h).trans ?_
  simp [hd]

theorem exec_wrTxData (h : Ready s) (c : ChannelId) (w : Word) (hb : (channel s c).busy = false) :
    exec (wrTxData c w) s = .next (setChannel c (startWord w (channel s c)) s) := by
  cases c <;> refine (onceReset_of_ready h).trans ?_ <;> simp_all

theorem exec_wrTxData_busy (h : Ready s) (c : ChannelId) (w : Word) (hb : (channel s c).busy = true) :
    exec (wrTxData c w) s = .next (raiseFault .txBusy (encode (wrTxData c w)) s) := by
  cases c <;> refine (onceReset_of_ready h).trans ?_ <;> simp_all [wrTxData]

theorem exec_txstep (h : Ready s) {c : ChannelId} (hb : (channel s c).busy = true) :
    exec (.txstep c) s = .next (setChannel c (lineWrite (channel s c)) s) := by
  refine (onceReset_of_ready h).trans ?_
  simp [hb]

theorem exec_txstep_idle (h : Ready s) {c : ChannelId} (hb : (channel s c).busy = false) :
    exec (.txstep c) s = .fault (.channelIdle c) := by
  refine (onceReset_of_ready h).trans ?_
  simp [hb]

theorem exec_reset (h : legalConfig s.cfg = true) (ab : Pins) : exec (.reset ab) s = .next (resetCore ab s) :=
  underLegal_of h

/-- No operation has a meaning under an illegal parameter set. -/
theorem exec_illegal (h : legalConfig s.cfg = false) (i : Instr) : exec i s = .refused .illegalParameters := by
  cases i <;> exact underLegal_of_not h

/-- Before the first RESET every operation but RESET faults with NO_RESET. -/
theorem exec_before (h : legalConfig s.cfg = true) (hr : s.resetSeen = false) {i : Instr}
    (hi : ∀ ab, i ≠ .reset ab) : exec i s = .next (raiseFault .noReset (encode i) s) := by
  cases i with
  | reset ab => exact absurd rfl (hi ab)
  | _ => exact onceReset_before h hr

/-- Where the fault table gives a code, exec raises it and does nothing else (60_exceptions.md R250, R254). -/
theorem exec_of_faultOf {i : Instr} {code : FaultCode} (hl : legalConfig s.cfg = true)
    (h : faultOf (encode i) s = some code) : exec i s = .next (raiseFault code (encode i) s) := by
  by_cases hi : ∃ ab, i = .reset ab
  · obtain ⟨ab, rfl⟩ := hi
    simp [faultOf, encode, tableFault] at h
  replace hi : ∀ ab, i ≠ .reset ab := fun ab e => hi ⟨ab, e⟩
  cases hr : s.resetSeen
  · have hk : kindOf (encode i) ≠ 0x6#4 := by
      cases i with
      | reset ab => exact absurd rfl (hi ab)
      | _ => simp [encode]
    rw [faultOf_onceReset hr hk] at h
    cases h
    exact exec_before hl hr hi
  · have hs : Ready s := ⟨hl, hr⟩
    simp only [faultOf, hr, Bool.true_or, if_true] at h
    cases i
    case wrApply d =>
      simp [encode, tableFault, accessOf, writeFault] at h
      obtain ⟨h, rfl⟩ := h
      refine exec_wrApply_reserved hs ?_
      rw [applyDirection_eq, if_neg (by omega), if_neg (by omega), if_neg (by omega)]
    case wrTx0Data d =>
      simp [encode, tableFault, accessOf, writeFault] at h
      obtain ⟨h, rfl⟩ := h
      exact exec_wrTxData_busy hs .display d h
    case wrTx1Data d =>
      simp [encode, tableFault, accessOf, writeFault] at h
      obtain ⟨h, rfl⟩ := h
      exact exec_wrTxData_busy hs .cv d h
    all_goals simp [encode, tableFault, accessOf] at h
    all_goals first
      | done
      | (subst h; exact onceReset_of_ready hs)

/-- A pin event changes the words still to be taken as it found them. -/
theorem pinChange_withInput (cur : Pins) (s : State) (l : List OpWord) :
    pinChange cur { s with input := l } = { pinChange cur s with input := l } := by
  unfold pinChange; dsimp only; repeat' split
  all_goals rfl

/-- A timer event changes the words still to be taken as it found them. -/
theorem timerEvent_withInput (s : State) (l : List OpWord) :
    timerEvent { s with input := l } = { timerEvent s with input := l } := by
  rw [timerEvent_eq, timerEvent_eq]; dsimp only [afterSubpulse]; repeat' split
  all_goals rfl

/-- No operation reads or changes the words still to be taken. -/
theorem exec_withInput (i : Instr) (s : State) (l : List OpWord) :
    exec i { s with input := l } = andThen (exec i s) fun t => .next { t with input := l } := by
  cases hl : legalConfig s.cfg
  · rw [exec_illegal hl, exec_illegal (s := { s with input := l }) hl]; rfl
  by_cases hi : ∃ ab, i = .reset ab
  · obtain ⟨ab, rfl⟩ := hi
    rw [exec_reset hl, exec_reset (s := { s with input := l }) hl]; rfl
  by_cases hr : s.resetSeen = true
  case neg =>
    rw [Bool.not_eq_true] at hr
    have hi' : ∀ ab, i ≠ .reset ab := fun ab e => hi ⟨ab, e⟩
    rw [exec_before hl hr hi', exec_before (s := { s with input := l }) hl hr hi', raiseFault_eq, raiseFault_eq]; rfl
  have hs : Ready s := ⟨hl, hr⟩
  have hs' : Ready { s with input := l } := ⟨hl, hr⟩
  have hc : ∀ c, channel { s with input := l } c = channel s c := by rintro (_ | _) <;> rfl
  have htx : ∀ c w, exec (wrTxData c w) { s with input := l }
      = andThen (exec (wrTxData c w) s) fun t => .next { t with input := l } := by
    intro c w
    cases hb : (channel s c).busy
    · rw [exec_wrTxData hs c w hb, exec_wrTxData hs' c w (by rw [hc, hb])]; cases c <;> rfl
    · rw [exec_wrTxData_busy hs c w hb, exec_wrTxData_busy hs' c w (by rw [hc, hb]), raiseFault_eq, raiseFault_eq]; rfl
  cases i with
  | reset ab => exact absurd ⟨ab, rfl⟩ hi
  | wrApply d =>
    cases hd : applyDirection d with
    | some x => rw [exec_wrApply hs hd, exec_wrApply hs' hd]; rfl
    | none => rw [exec_wrApply_reserved hs hd, exec_wrApply_reserved hs' hd, raiseFault_eq, raiseFault_eq]; rfl
  | wrTx0Data d => exact htx .display d
  | wrTx1Data d => exact htx .cv d
  | txstep c =>
    cases hb : (channel s c).busy
    · rw [exec_txstep_idle hs hb, exec_txstep_idle hs' (by rw [hc, hb])]; rfl
    · rw [exec_txstep hs hb, exec_txstep hs' (by rw [hc, hb])]; cases c <;> rfl
  | tick => rw [exec_tick hs, exec_tick hs', timerEvent_withInput]; rfl
  | pins cur => rw [exec_pins hs, exec_pins hs', pinChange_withInput]; rfl
  | rdStatus => rw [exec_rdStatus hs, exec_rdStatus hs']; rfl
  | rdTempo => rw [exec_rdTempo hs, exec_rdTempo hs']; rfl
  | rdPeriod => rw [exec_rdPeriod hs, exec_rdPeriod hs']; rfl
  | rdSubpulse => rw [exec_rdSubpulse hs, exec_rdSubpulse hs']; rfl
  | rdAcc => rw [exec_rdAcc hs, exec_rdAcc hs']; rfl
  | rdMidiPend => rw [exec_rdMidiPend hs, exec_rdMidiPend hs']; rfl
  | rdDir => rw [exec_rdDir hs, exec_rdDir hs']; rfl
  | rdTx0Last => rw [exec_rdTx0Last hs, exec_rdTx0Last hs']; rfl
  | rdTx1Last => rw [exec_rdTx1Last hs, exec_rdTx1Last hs']; rfl
  | rdLines => rw [exec_rdLines hs, exec_rdLines hs']; rfl
  | rdApply | rdTx0Data | rdTx1Data | rdUnmappedD | rdUnmappedE | rdUnmappedF | wrStatus _ | wrTempo _ | wrPeriod _
  | wrSubpulse _ | wrAcc _ | wrMidiPend _ | wrDir _ | wrTx0Last _ | wrTx1Last _ | wrLines _ | wrUnmappedD _
  | wrUnmappedE _ | wrUnmappedF _ =>
    refine (onceReset_of_ready hs').trans ?_
    refine Eq.trans ?_ (congrArg (andThen · _) (onceReset_of_ready hs).symm)
    simp only [andThen, raiseFault_eq]; rfl

end Sys2Proof.Machine
end

