-- ==== Sys2Proof/Laws/PerInstr.lean ====
section
/-! SUPPORT. Statements about every operation as syntax, one lemma per constructor. EncodedForm: the word of an operation
breaks none of the format rules of 30_encoding.md R88. -/

namespace Sys2Proof.Laws.EncodedForm

/-- The operation's word is well formed. -/
def Statement (i : Instr) : Prop := wellFormedWord (encode i) = true

/-- An RD word is well formed. -/
theorem rd_form (a : RegAddr) : wellFormedWord (opWord 0x1#4 a 0#16) = true := by
  simp [wellFormedWord_fields]

/-- A WR word is well formed, with any data. -/
theorem wr_form (a : RegAddr) (d : Word) : wellFormedWord (opWord 0x2#4 a d) = true := by
  simp [wellFormedWord_fields]

theorem rdStatus : Statement .rdStatus := rd_form _
theorem rdTempo : Statement .rdTempo := rd_form _
theorem rdApply : Statement .rdApply := rd_form _
theorem rdPeriod : Statement .rdPeriod := rd_form _
theorem rdSubpulse : Statement .rdSubpulse := rd_form _
theorem rdAcc : Statement .rdAcc := rd_form _
theorem rdMidiPend : Statement .rdMidiPend := rd_form _
theorem rdDir : Statement .rdDir := rd_form _
theorem rdTx0Data : Statement .rdTx0Data := rd_form _
theorem rdTx1Data : Statement .rdTx1Data := rd_form _
theorem rdTx0Last : Statement .rdTx0Last := rd_form _
theorem rdTx1Last : Statement .rdTx1Last := rd_form _
theorem rdLines : Statement .rdLines := rd_form _
theorem rdUnmappedD : Statement .rdUnmappedD := rd_form _
theorem rdUnmappedE : Statement .rdUnmappedE := rd_form _
theorem rdUnmappedF : Statement .rdUnmappedF := rd_form _
theorem wrStatus (d : Word) : Statement (.wrStatus d) := wr_form _ d
theorem wrTempo (d : Word) : Statement (.wrTempo d) := wr_form _ d
theorem wrApply (d : Word) : Statement (.wrApply d) := wr_form _ d
theorem wrPeriod (d : Word) : Statement (.wrPeriod d) := wr_form _ d
theorem wrSubpulse (d : Word) : Statement (.wrSubpulse d) := wr_form _ d
theorem wrAcc (d : Word) : Statement (.wrAcc d) := wr_form _ d
theorem wrMidiPend (d : Word) : Statement (.wrMidiPend d) := wr_form _ d
theorem wrDir (d : Word) : Statement (.wrDir d) := wr_form _ d
theorem wrTx0Data (d : Word) : Statement (.wrTx0Data d) := wr_form _ d
theorem wrTx1Data (d : Word) : Statement (.wrTx1Data d) := wr_form _ d
theorem wrTx0Last (d : Word) : Statement (.wrTx0Last d) := wr_form _ d
theorem wrTx1Last (d : Word) : Statement (.wrTx1Last d) := wr_form _ d
theorem wrLines (d : Word) : Statement (.wrLines d) := wr_form _ d
theorem wrUnmappedD (d : Word) : Statement (.wrUnmappedD d) := wr_form _ d
theorem wrUnmappedE (d : Word) : Statement (.wrUnmappedE d) := wr_form _ d
theorem wrUnmappedF (d : Word) : Statement (.wrUnmappedF d) := wr_form _ d
theorem tick : Statement .tick := by unfold Statement; decide
theorem pins (cur : Pins) : Statement (.pins cur) := by unfold Statement; revert cur; decide
theorem txstep (c : ChannelId) : Statement (.txstep c) := by unfold Statement; cases c <;> decide
theorem reset (ab : Pins) : Statement (.reset ab) := by unfold Statement; revert ab; decide

end Sys2Proof.Laws.EncodedForm
end

