-- ==== Sys2Proof/Laws/Runs.lean ====
section
/-! SUPPORT. What a run that follows a schedule can do from one moment to the next. -/

namespace Sys2Proof.Machine

variable {schedule : Schedule} {run : Nat → State} {n : Nat}

/-- Where no word comes, nothing changes. -/
theorem Follows.idle (h : Follows schedule run) (hn : schedule n = none) : run (n + 1) = run n := by
  have := h n
  rwa [hn] at this

/-- Where a word comes, it spells an operation, and the operation has its step. -/
theorem Follows.word (h : Follows schedule run) {w : OpWord} (hn : schedule n = some w) :
    ∃ i, decode w = .operation i ∧ exec i (run n) = .next (run (n + 1)) := by
  have := h n
  simp only [hn, runWord] at this
  split at this
  · exact ⟨_, ‹_›, this⟩
  · cases this

@[simp] theorem stepsTaken_zero (schedule : Schedule) (c : ChannelId) (n : Nat) : stepsTaken schedule c n 0 = 0 := rfl

/-- The steps taken in k + 1 moments: the one at the first moment, if it is one, and those of the k moments after. -/
theorem stepsTaken_succ (schedule : Schedule) (c : ChannelId) (n k : Nat) :
    stepsTaken schedule c n (k + 1) = stepsTaken schedule c (n + 1) k + if TakesStep schedule c n then 1 else 0 := by
  simp only [stepsTaken, List.range_succ_eq_map, List.countP_cons, List.countP_map, Function.comp_def, Nat.add_zero,
    beq_iff_eq, Nat.succ_eq_add_one, Nat.add_assoc, Nat.add_comm 1]

/-- Words carried out in two parts. -/
theorem runWords_append (ws vs : List OpWord) (s : State) :
    runWords (ws ++ vs) s = andThen (runWords ws s) (runWords vs) := by
  induction ws generalizing s with
  | nil => rfl
  | cons w ws ih =>
    simp only [List.cons_append, runWords]
    cases runWord w s <;> simp [andThen, ih]

/-- The state at each moment is that of the words so far, carried out one after the other. -/
theorem Follows.runWords (h : Follows schedule run) (n : Nat) :
    runWords (wordsBefore schedule n) (run 0) = .next (run n) := by
  induction n with
  | zero => rfl
  | succ n ih =>
    rw [wordsBefore, List.range_succ, List.filterMap_append, ← wordsBefore, runWords_append, ih]
    have := h n
    cases hn : schedule n <;> simp only [hn] at this <;>
      simp [List.filterMap, hn, andThen, Machine.runWords, this]

end Sys2Proof.Machine
end

