-- ==== Sys2Proof/Tests/Slice0.lean ====
section
/-! SUPPORT. Tests. First the decoder and the format checks on words written out from the formats of 30_encoding.md; then
one step of each operation, with the results of 95_test_vectors.md or by hand from the operation's rule; then, for each
obligation with hypotheses, a witness that meets them. -/

namespace Sys2Proof.Tests

open Sys2Proof Sys2Proof.Machine

/-! ### Helpers -/

/-- The next state, where there is one. -/
def nextOf (r : Result) : Option State :=
  match r with
  | .next t => some t
  | _ => none

/-- One field of the next state, where there is one. -/
def view (f : State → α) (r : Result) : Option α := (nextOf r).map f

/-- A result whose next state is known. -/
theorem next_of {r : Result} {t : State} (h : nextOf r = some t) : r = .next t := by
  cases r <;> simp_all [nextOf]

/-- The standard parameters with MODE = FIXED. -/
def fixedConfig : Config := { Config.standard with mode := .fixed }

/-- The standard parameters with ACC_RESET = SUBTRACT. -/
def subtractConfig : Config := { Config.standard with accReset := .subtract }

/-- The standard parameters with BOUNDARY = MEASURE, 4 beats. -/
def measureConfig : Config := { fixedConfig with boundary := .measure }

/-- From reset, with MODE = FIXED. -/
def fixedReset : State := State.afterReset fixedConfig 0b00#2

/-- A state with TEMPO = t. -/
def withTempo (t : Nat) : State := { State.reset with tempo := BitVec.ofNat 16 t }

/-- A state with the encoder at p, tracking t. -/
def withPins (p : Pins) (t : Track) : State := { State.reset with decPrev := p, decTrack := t }

/-- A state with channel 0 sending w, about to make line write p. -/
def sending (w : Word) (p : Nat) : State :=
  { State.reset with tx0 := { busy := true, pos := BitVec.ofNat 6 p, shreg := w, last := 0x1111#16, clk := false,
                              dat := false, lat := decide (p = 0) } }

/-- A state before the first RESET. -/
def beforeReset : State := State.startOfRun Config.standard []

/-- The standard parameters with a timer rate that breaks R7. -/
def illegalConfig : Config := { Config.standard with timerHz := 524288 }

/-! ### Decoding -/

/-- Format RD (30_encoding.md R82): 0001 aaaa and sixteen zeros. -/
theorem test_decode_rd :
    [0b000100000000000000000000#24, 0x110000#24, 0x120000#24, 0x130000#24, 0x140000#24, 0x150000#24, 0x160000#24,
      0x170000#24, 0b000110000000000000000000#24, 0x190000#24, 0x1A0000#24, 0x1B0000#24, 0x1C0000#24, 0x1D0000#24,
      0x1E0000#24, 0b000111110000000000000000#24].map decode
    = [Instr.rdStatus, .rdTempo, .rdApply, .rdPeriod, .rdSubpulse, .rdAcc, .rdMidiPend, .rdDir, .rdTx0Data, .rdTx1Data,
      .rdTx0Last, .rdTx1Last, .rdLines, .rdUnmappedD, .rdUnmappedE, .rdUnmappedF].map Decoded.operation := by decide

/-- Format WR (30_encoding.md R83): 0010 aaaa and the data. -/
theorem test_decode_wr_low :
    [0b001000001010010111000011#24, 0x21008C#24, 0x220001#24, 0x231000#24, 0x248001#24, 0x250000#24, 0x26FFFF#24,
      0x270000#24].map decode
    = [Instr.wrStatus 0xA5C3#16, .wrTempo 0x008C#16, .wrApply 0x0001#16, .wrPeriod 0x1000#16, .wrSubpulse 0x8001#16,
      .wrAcc 0x0000#16, .wrMidiPend 0xFFFF#16, .wrDir 0x0000#16].map Decoded.operation := by decide

theorem test_decode_wr_high :
    [0x28063F#24, 0b001010011010101111001101#24, 0x2A1234#24, 0x2B8000#24, 0x2C0001#24, 0x2D7FFF#24, 0x2E4321#24,
      0x2F1234#24].map decode
    = [Instr.wrTx0Data 0x063F#16, .wrTx1Data 0xABCD#16, .wrTx0Last 0x1234#16, .wrTx1Last 0x8000#16, .wrLines 0x0001#16,
      .wrUnmappedD 0x7FFF#16, .wrUnmappedE 0x4321#16, .wrUnmappedF 0x1234#16].map Decoded.operation := by decide

/-- Formats TICK, PINS, TXSTEP and RESET (30_encoding.md R84 to R87). -/
theorem test_decode_events :
    [0b001100000000000000000000#24, 0b010000000000000000000000#24, 0x400001#24, 0x400002#24, 0x400003#24,
      0b010100000000000000000000#24, 0x500001#24, 0b011000000000000000000000#24, 0x600001#24, 0x600002#24,
      0x600003#24].map decode
    = [Instr.tick, .pins 0b00#2, .pins 0b01#2, .pins 0b10#2, .pins 0b11#2, .txstep .display, .txstep .cv, .reset 0b00#2,
      .reset 0b01#2, .reset 0b10#2, .reset 0b11#2].map Decoded.operation := by decide

/-- The decoder names the condition of 30_encoding.md R88 that a word breaks (V-ENC-9 to V-ENC-15). -/
theorem test_decode_refuses :
    [0x000000#24, 0x700000#24, 0xF00000#24, 0x110001#24, 0x310000#24, 0x410000#24, 0x510000#24, 0x610000#24,
      0x300001#24, 0x400004#24, 0x600004#24, 0x500002#24].map decode
    = [RefusedWord.reservedKind, .reservedKind, .reservedKind, .rdDataNotZero, .eventAddrNotZero, .eventAddrNotZero,
      .eventAddrNotZero, .eventAddrNotZero, .tickDataNotZero, .pinBitsNotZero, .pinBitsNotZero,
      .txstepBitsNotZero].map Decoded.refused := by decide

theorem test_encode_words :
    [Instr.rdLines, .wrTx1Data 0xABCD#16, .tick, .pins 0b11#2, .txstep .cv, .reset 0b10#2].map encode
    = [0x1C0000#24, 0x29ABCD#24, 0x300000#24, 0x400003#24, 0x500001#24, 0x600002#24] := by decide

/-- The host's numbering: bit 0 is the least significant bit of the 24-bit word. -/
theorem test_decodeTableWord : decodeTableWord 24 0x2F1234 = some (.wrUnmappedF 0x1234#16) := by decide

/-! ### Well-formedness: one ill-formed word for each check, and the neighbour that passes -/

theorem test_wf_reservedKind :
    [0x000000#24, 0x700000#24, 0xF00000#24].map reservedKind = [true, true, true]
      ∧ [0x000000#24, 0x700000#24, 0xF00000#24, 0x600000#24].map wellFormedWord = [false, false, false, true] := by
  decide

theorem test_wf_rdWithData :
    rdWithData 0x110001#24 = true ∧ wellFormedWord 0x110001#24 = false ∧ wellFormedWord 0x110000#24 = true := by decide

theorem test_wf_eventWithAddr :
    [0x310000#24, 0x410000#24, 0x510000#24, 0x610000#24].map eventWithAddr = [true, true, true, true]
      ∧ [0x310000#24, 0x410000#24, 0x510000#24, 0x610000#24].map wellFormedWord = [false, false, false, false] := by
  decide

theorem test_wf_tickWithData :
    tickWithData 0x300001#24 = true ∧ wellFormedWord 0x300001#24 = false ∧ wellFormedWord 0x300000#24 = true := by decide

theorem test_wf_pinsWithHighBits :
    [0x400004#24, 0x608000#24].map pinsWithHighBits = [true, true]
      ∧ [0x400004#24, 0x608000#24, 0x400003#24].map wellFormedWord = [false, false, true] := by decide

theorem test_wf_txstepWithHighBits :
    txstepWithHighBits 0x500002#24 = true ∧ wellFormedWord 0x500002#24 = false
      ∧ wellFormedWord 0x500001#24 = true := by decide

/-! ### One step of each operation -/

/-- V-ST-1. -/
theorem test_rdStatus_reset : view (·.returned) (exec .rdStatus State.reset) = some [0x0000#16] := by decide

/-- V-DEC-15: DEC_PREV 11, TRACK_L. -/
theorem test_rdStatus_tracking :
    view (·.returned) (exec .rdStatus (withPins 0b11#2 .trackL)) = some [0x01A0#16] := by decide

/-- W9 and V-ST-9. -/
theorem test_rdTempo : view (·.returned) (exec .rdTempo State.reset) = some [0x0078#16] := by decide

/-- V-TMP-1 at 300. -/
theorem test_rdPeriod : view (·.returned) (exec .rdPeriod (withTempo 300)) = some [0x0823#16] := by decide

/-- V-PE-6: 23 sub-pulses. -/
theorem test_rdSubpulse :
    view (·.returned) (exec .rdSubpulse { fixedReset with subpulse := 23#16 }) = some [0x0017#16] := by decide

/-- V-PE-1. -/
theorem test_rdAcc :
    view (·.returned) (exec .rdAcc { State.reset with acc := 5207#16 }) = some [0x1457#16] := by decide

/-- V-PE-23: the read clears. -/
theorem test_rdMidiPend :
    view (fun t => (t.returned, t.midiPend)) (exec .rdMidiPend { State.reset with midiPend := 24#16 })
      = some ([0x0018#16], 0#16) := by decide

/-- V-DEC-17: RIGHT is returned, and cleared. -/
theorem test_rdDir :
    view (fun t => (t.returned, t.dir)) (exec .rdDir { State.reset with dir := .right })
      = some ([0x0002#16], .none) := by decide

/-- 40_bitserial.md R116: a word in flight does not show. -/
theorem test_rdTx0Last : view (·.returned) (exec .rdTx0Last (sending 0x063F#16 7)) = some [0x1111#16] := by decide

/-- V-TX-7. -/
theorem test_rdTx1Last :
    view (·.returned) (exec .rdTx1Last { State.reset with tx1 := { State.reset.tx1 with last := 0x0001#16 } })
      = some [0x0001#16] := by decide

/-- V-ST-2. -/
theorem test_rdLines_reset : view (·.returned) (exec .rdLines State.reset) = some [0x0044#16] := by decide

/-- V-TX-6: CLK0 and DAT0 high, LAT0 low; CLK1 high, DAT1 and LAT1 low. -/
theorem test_rdLines_two_channels :
    view (·.returned) (exec .rdLines { State.reset with
      tx0 := { State.reset.tx0 with clk := true, dat := true, lat := false },
      tx1 := { State.reset.tx1 with clk := true, dat := false, lat := false } }) = some [0x0013#16] := by decide

/-- V-TMP-3. -/
theorem test_wrApply_left : view (·.tempo) (exec (.wrApply 0x0001#16) State.reset) = some 121#16 := by decide

/-- V-TMP-12: a reserved value, although DATA[1:0] is LEFT. -/
theorem test_wrApply_reserved :
    view (fun t => (t.tempo, t.fault)) (exec (.wrApply 0x8001#16) State.reset)
      = some (120#16, some ⟨.applyReserved, 0x228001#24⟩) := by decide

/-- 40_bitserial.md R111, its example. -/
theorem test_wrTx0Data :
    view (fun t => (t.tx0.busy, t.tx0.pos, t.tx0.shreg, t.tx0.lat)) (exec (.wrTx0Data 0x063F#16) State.reset)
      = some (true, 0#6, 0x063F#16, true) := by decide

/-- V-TX-2. -/
theorem test_wrTx0Data_busy :
    view (fun t => (t.tx0, t.fault)) (exec (.wrTx0Data 0x1234#16) (sending 0x063F#16 0))
      = some ((sending 0x063F#16 0).tx0, some ⟨.txBusy, 0x281234#24⟩) := by decide

/-- V-TX-3: channel 1 accepts a word while channel 0 is busy. -/
theorem test_wrTx1Data :
    view (fun t => (t.tx0.shreg, t.tx1.busy, t.tx1.shreg)) (exec (.wrTx1Data 0xABCD#16) (sending 0x063F#16 9))
      = some (0x063F#16, true, 0xABCD#16) := by decide

/-- V-TX-1, step 17: DAT[0] takes w[10] = 1. -/
theorem test_txstep_data :
    view (fun t => (t.tx0.dat, t.tx0.clk, t.tx0.pos)) (exec (.txstep .display) (sending 0x063F#16 16))
      = some (true, false, 17#6) := by decide

/-- V-TX-1, step 50: the commit. -/
theorem test_txstep_commit :
    view (fun t => (t.tx0.lat, t.tx0.last, t.tx0.busy, t.tx0.pos)) (exec (.txstep .display) (sending 0x063F#16 49))
      = some (true, 0x063F#16, false, 0#6) := by decide

/-- V-PE-2: the 5208th TICK is a sub-pulse. -/
theorem test_tick_accum :
    view (fun t => (t.acc, t.subpulse, t.midiPend)) (exec .tick { State.reset with acc := 5207#16 })
      = some (0#16, 1#16, 1#16) := by decide

/-- V-PE-7: the boundary. -/
theorem test_tick_boundary :
    view (fun t => (t.subpulse, t.beatInd, t.gate, t.phase)) (exec .tick { fixedReset with subpulse := 23#16 })
      = some (0#16, true, true, .atBeatBoundary) := by decide

/-- The last event of V-DEC-1: B falls last, LEFT. -/
theorem test_pins_commit :
    view (fun t => (t.dir, t.decTrack, t.decPrev)) (exec (.pins 0b00#2) (withPins 0b01#2 .trackL))
      = some (.left, .idle, 0b00#2) := by decide

/-- The second event of V-DEC-8: a two-bit change aborts. -/
theorem test_pins_two_bits :
    view (fun t => (t.dir, t.decTrack)) (exec (.pins 0b01#2) (withPins 0b10#2 .trackL))
      = some (.none, .trackX) := by decide

/-- V-TX-5: RESET abandons a word. -/
theorem test_reset_transmission :
    view (fun t => (t.tx0.busy, t.tx0.last, t.tx0.lat, t.tempo)) (exec (.reset 0b00#2) (sending 0xFFFF#16 20))
      = some (false, 0x0000#16, true, 120#16) := by decide

/-- V-DEC-20. -/
theorem test_reset_away_from_rest :
    view (fun t => (t.decPrev, t.decTrack)) (exec (.reset 0b01#2) beforeReset) = some (0b01#2, .trackX) := by decide

/-- V-TMP-15, V-ST-7, V-ST-8. -/
theorem test_rd_write_only :
    [Instr.rdApply, .rdTx0Data, .rdTx1Data].map (fun i => view (fun t => (t.fault, t.returned)) (exec i State.reset))
      = [some (some ⟨.busReadWo, 0x120000#24⟩, []), some (some ⟨.busReadWo, 0x180000#24⟩, []),
          some (some ⟨.busReadWo, 0x190000#24⟩, [])] := by decide

/-- V-ST-3, V-ST-4 and 44_status.md R232. -/
theorem test_unmapped :
    [Instr.rdUnmappedD, .rdUnmappedE, .rdUnmappedF, .wrUnmappedD 0#16, .wrUnmappedE 1#16, .wrUnmappedF 0x1234#16].map
        (fun i => view (·.fault) (exec i State.reset))
      = [0x1D0000#24, 0x1E0000#24, 0x1F0000#24, 0x2D0000#24, 0x2E0001#24, 0x2F1234#24].map
        (fun w => some (some ⟨.busUnmapped, w⟩)) := by decide

/-- V-TMP-13, V-TMP-14, V-PE-22, V-ST-5, V-ST-6 and 44_status.md R233. -/
theorem test_wr_read_only :
    [Instr.wrStatus 0xFFFF#16, .wrTempo 0x008C#16, .wrPeriod 0x1000#16, .wrSubpulse 0#16, .wrAcc 0#16, .wrMidiPend 0#16,
        .wrDir 0#16, .wrTx0Last 0#16, .wrTx1Last 0#16, .wrLines 0#16].map
        (fun i => view (fun t => (t.fault, t.tempo)) (exec i State.reset))
      = [0x20FFFF#24, 0x21008C#24, 0x231000#24, 0x240000#24, 0x250000#24, 0x260000#24, 0x270000#24, 0x2A0000#24,
        0x2B0000#24, 0x2C0000#24].map (fun w => some (some ⟨.busWriteRo, w⟩, 120#16)) := by decide

/-- V-RS-1. -/
theorem test_noReset :
    view (·.fault) (exec .rdTempo beforeReset) = some (some ⟨.noReset, 0x110000#24⟩) := by decide

/-- V-ST-10: RESET keeps FAULT. -/
theorem test_reset_keeps_fault :
    view (·.fault) (exec (.reset 0b00#2) { State.reset with fault := some ⟨.busUnmapped, 0x1D0000#24⟩ })
      = some (some ⟨.busUnmapped, 0x1D0000#24⟩) := by decide

/-- The host's question: the placed word is the one that step runs. -/
theorem test_withFetchWord :
    view (fun t => (t.tempo, t.input)) (step (State.reset.withFetchWord 24 0x220001)) = some (121#16, []) := by decide

/-! ### Witnesses: states and operands that meet the hypotheses of each obligation, clause by clause -/

theorem witness_EncodeOfDecodedIsTheWord :
    decode 0x2F1234#24 = .operation (.wrUnmappedF 0x1234#16) ∧ decode 0x500001#24 = .operation (.txstep .cv) := by decide

/-- Words at the edges of the six conditions: their KIND, ADDR and DATA as numbers. -/
theorem witness_RefusedWordsAreThoseOfTheList :
    [0x000000#24, 0x700000#24, 0x110001#24, 0x610000#24, 0x300001#24, 0x400004#24, 0x500002#24, 0x600003#24].map
        (fun w => (w.toNat / 2 ^ 20, w.toNat / 2 ^ 16 % 16, w.toNat % 2 ^ 16))
      = [(0, 0, 0), (7, 0, 0), (1, 1, 1), (6, 1, 0), (3, 0, 1), (4, 0, 4), (5, 0, 2), (6, 0, 3)] := by decide

/-- A refused word in a run. -/
theorem witness_RefusedWordsAreThoseOfTheList_run : 0x700000#24 ∈ [0x600000#24, 0x700000#24] := by decide

theorem witness_DecoderFollowsTheOpcodeTable :
    (⟨"PINS", 0x400000#24, 0xFFFFFC#24⟩ : OpcodeRow) ∈ opcodeTable ∧ 0x400003#24 &&& 0xFFFFFC#24 = 0x400000#24
      ∧ decode 0x400003#24 = .operation (.pins 0b11#2) := by decide

theorem witness_StepRunsTheNextOperation :
    (State.startOfRun Config.standard [0x600000#24, 0x300000#24]).input = 0x600000#24 :: [0x300000#24]
      ∧ decode 0x600000#24 = .operation (.reset 0b00#2) := by decide

theorem witness_StepStopsWithoutAnOperation :
    State.reset.input = [] ∧ (State.startOfRun Config.standard [0x000000#24]).input = 0x000000#24 :: []
      ∧ decode 0x000000#24 = .refused .reservedKind
      ∧ Ready { State.reset with input := [0x500000#24] } ∧ (channel State.reset .display).busy = false
      ∧ ({ State.reset with input := [0x500000#24] } : State).input = encode (.txstep .display) :: [] := by decide

theorem witness_MachineRunIsTheWordSequence :
    (State.startOfRun Config.standard [0x600000#24, 0x100000#24]).input = [0x600000#24] ++ [0x100000#24] := by decide

/-- The edges of V-TMP-2, and the bounds of the period at both ends of TEMPO. -/
theorem witness_LegalParameterSets :
    [119, 120, 524287, 524288].map (fun h => legalConfig { Config.standard with timerHz := h })
        = [false, true, true, false]
      ∧ legalConfig measureConfig = true
      ∧ [0, 1, 2730, 2731].map (fun b => legalConfig { measureConfig with beatsPerMeasure := b })
        = [false, true, true, false]
      ∧ Config.standard.tempoMin ≤ 20 ∧ 300 ≤ Config.standard.tempoMax
      ∧ legalConfig (State.afterReset illegalConfig 0b00#2).cfg = false := by decide

theorem witness_TempoFiguresOfTheSpec :
    (Config.standard.tempoMin = 20 ∧ Config.standard.tempoMax = 300 ∧ Config.standard.boundary = .beat
        ∧ Config.standard.timerHz = 250000)
      ∧ (Ready State.reset ∧ State.reset.tempo = 120#16 ∧ 126 ≤ State.reset.cfg.tempoMax
        ∧ State.reset.cfg.timerHz = 250000)
      ∧ (Ready (withTempo 20) ∧ 20 ≤ (withTempo 20).tempo.toNat)
      ∧ Ready (withTempo 300) ∧ (withTempo 300).tempo.toNat ≤ 300 := by decide

theorem witness_NothingButResetBeforeTheFirstReset :
    legalConfig beforeReset.cfg = true ∧ beforeReset.resetSeen = false ∧ ∀ ab, Instr.txstep .display ≠ .reset ab := by
  decide

/-- A next state of an operation other than RESET, after a reset. -/
theorem witness_NothingButResetBeforeTheFirstReset_kept :
    exec .tick State.reset = .next { State.reset with acc := 1#16 } ∧ State.reset.resetSeen = true :=
  ⟨next_of (by decide), by decide⟩

theorem witness_FaultsFollowTheTable :
    exec .rdUnmappedD State.reset = .next { State.reset with fault := some ⟨.busUnmapped, 0x1D0000#24⟩ } :=
  next_of (by decide)

/-- One state and operation for each fault code. -/
theorem witness_AFaultIsPrecise :
    legalConfig State.reset.cfg = true ∧ State.reset.fault = none ∧ (sending 0#16 0).fault = none
      ∧ beforeReset.fault = none
      ∧ [Instr.wrUnmappedF 0#16, .wrLines 0#16, .rdApply, .wrApply 3#16].map (fun i => faultOf (encode i) State.reset)
        = [some .busUnmapped, some .busWriteRo, some .busReadWo, some .applyReserved]
      ∧ faultOf (encode (.wrTx0Data 0#16)) (sending 0#16 0) = some .txBusy
      ∧ faultOf (encode (.txstep .cv)) beforeReset = some .noReset
      ∧ faultOf (encode (.wrApply 2#16)) State.reset = none := by decide

/-- A state with a fault recorded. -/
def faulted : State := { State.reset with fault := some ⟨.busUnmapped, 0x1D0000#24⟩ }

theorem witness_TheFirstFaultIsKept :
    exec .rdTempo faulted = .next { faulted with returned := [120#16] }
      ∧ faulted.fault = some ⟨.busUnmapped, 0x1D0000#24⟩ ∧ faultOf (encode .rdApply) faulted ≠ none
      ∧ exec .rdTempo { faulted with fault := none } = .next { State.reset with returned := [120#16] }
      ∧ ({ State.reset with returned := [120#16] } : State).fault = none ∧ faulted.fault ≠ none :=
  ⟨next_of (by decide), by decide, by decide, next_of (by decide), by decide, by decide⟩

theorem witness_OperationsHaveAStepWhenEnabled :
    Ready State.reset ∧ agentEnabled (agentOf (.txstep .display)) State.reset = false
      ∧ agentEnabled (agentOf (.txstep .display)) (sending 0#16 0) = true ∧ agentEnabled (agentOf .tick) State.reset = true
      ∧ legalConfig beforeReset.cfg = true ∧ beforeReset.resetSeen = false ∧ ∀ ab, Instr.tick ≠ .reset ab := by decide

/-- `Ready` is met after a reset, with either mode, and while a channel is sending: the only hypothesis of the
illegal accesses (UnmappedAccessesFault, WritesOfReadOnlyRegistersFault, ReadsOfWriteOnlyRegistersFault) and of the
reads. -/
theorem witness_UnmappedAccessesFault :
    Ready State.reset ∧ Instr.wrUnmappedE 7#16 ∈ [Instr.rdUnmappedD, .rdUnmappedE, .rdUnmappedF, .wrUnmappedD 7#16,
      .wrUnmappedE 7#16, .wrUnmappedF 7#16] := by decide

theorem witness_WritesOfReadOnlyRegistersFault :
    Ready fixedReset ∧ Instr.wrDir 7#16 ∈ [Instr.wrStatus 7#16, .wrTempo 7#16, .wrPeriod 7#16, .wrSubpulse 7#16,
      .wrAcc 7#16, .wrMidiPend 7#16, .wrDir 7#16, .wrTx0Last 7#16, .wrTx1Last 7#16, .wrLines 7#16] := by decide

theorem witness_ReadsOfWriteOnlyRegistersFault :
    Ready (sending 0#16 0) ∧ Instr.rdTx0Data ∈ [Instr.rdApply, .rdTx0Data, .rdTx1Data] := by decide

/-- Each access type occurs, at the ends of the address ranges. -/
theorem witness_AccessTypesOfTheRegisterMap :
    Ready State.reset ∧ State.reset.fault = none
      ∧ [0x0#4, 0x1#4, 0x2#4, 0x6#4, 0x7#4, 0x8#4, 0x9#4, 0xA#4, 0xC#4, 0xD#4, 0xF#4].map accessOf
        = [.ro, .ro, .wo, .rc, .rc, .wo, .wo, .ro, .ro, .unassigned, .unassigned] := by decide

theorem witness_RdStatusReturnsItsFields :
    Ready (withPins 0b11#2 .trackL) ∧ legalConfig Config.standard = true ∧ Config.standard.mode = .accum
      ∧ Config.standard.boundary = .beat := by decide

theorem witness_RdTempoReturnsTempo : Ready (withTempo 20) ∧ legalConfig Config.standard = true := by decide

theorem witness_RdPeriodReturnsThePeriod :
    Ready (withTempo 20) ∧ Ready (withTempo 300)
      ∧ (withTempo 20).cfg.tempoMin = (withTempo 20).tempo.toNat ∧ (withTempo 20).tempo.toNat ≤ (withTempo 20).cfg.tempoMax
      ∧ (withTempo 300).tempo.toNat = (withTempo 300).cfg.tempoMax ∧ legalConfig Config.standard = true
      ∧ Config.standard.timerHz = 250000 := by decide

/-- With the boundary tick, whose new SUBPULSE is 0. -/
theorem witness_RdSubpulseReturnsSubpulse :
    (Ready { fixedReset with subpulse := 23#16 } ∧ StateInv { fixedReset with subpulse := 23#16 })
      ∧ exec .tick { fixedReset with subpulse := 23#16 }
        = .next { fixedReset with midiPend := 1#16, beatInd := true, gate := true, phase := .atBeatBoundary }
      ∧ fixedReset.subpulse = 0#16 ∧ fixedReset.subpulse ≠ ({ fixedReset with subpulse := 23#16 } : State).subpulse
      ∧ legalConfig fixedConfig = true ∧ fixedConfig.mode = .fixed :=
  ⟨by decide, next_of (by decide), by decide, by decide, by decide, by decide⟩

theorem witness_RdAccReturnsAcc :
    Ready State.reset ∧ (Ready fixedReset ∧ StateInv fixedReset ∧ fixedReset.cfg.mode = .fixed)
      ∧ legalConfig Config.standard = true ∧ Config.standard.mode = .accum ∧ Config.standard.timerHz = 250000 := by decide

theorem witness_RdMidiPendReadsAndClears :
    Ready { State.reset with midiPend := 65535#16 } ∧ legalConfig fixedConfig = true ∧ fixedConfig.mode = .fixed := by
  decide

theorem witness_RdDirTakesTheDirection :
    Ready { State.reset with dir := .right } ∧ State.reset.decTrack = .idle ∧ State.reset.decPrev = 0b00#2 := by decide

theorem witness_RdTxLastReturnsLast :
    Ready (sending 0#16 49) ∧ Ready State.reset ∧ State.reset.tx0.busy = false ∧ State.reset.tx1.busy = false
      ∧ legalConfig Config.standard = true := by decide

theorem witness_RdLinesReturnsTheLevels : Ready (sending 0x063F#16 3) ∧ legalConfig Config.standard = true := by decide

theorem witness_PeriodDividerIsOneFloorDivision :
    (1 ≤ 1) ∧ legalConfig Config.standard = true ∧ Config.standard.tempoMin ≤ 20 ∧ 20 ≤ Config.standard.tempoMax
      ∧ 300 ≤ Config.standard.tempoMax := by decide

/-- The data 2 and 3, where the two clauses meet; a reserved value with DATA[15:2] ≠ 0. -/
theorem witness_WrApplyStepsTheTempo :
    Ready (withTempo 20) ∧ Ready (withTempo 300) ∧ (2#16 : Word).toNat ≤ 2
      ∧ (2#16 : Word).extractLsb' 2 14 = 0#14 ∧ (2#16 : Word).extractLsb' 0 2 ≠ 0b11#2
      ∧ (3#16 : Word).extractLsb' 0 2 = 0b11#2 ∧ (4#16 : Word).extractLsb' 2 14 ≠ 0#14
      ∧ State.reset.tempo = 120#16 ∧ 121 ≤ State.reset.cfg.tempoMax ∧ State.reset.cfg.timerHz = 250000 := by decide

theorem witness_TempoSaturatesAtItsBounds :
    (Ready (withTempo 300) ∧ (withTempo 300).tempo.toNat = (withTempo 300).cfg.tempoMax)
      ∧ (Ready (withTempo 20) ∧ (withTempo 20).tempo.toNat = (withTempo 20).cfg.tempoMin)
      ∧ exec (.wrApply 0x0002#16) (withTempo 20) = .next (withTempo 20)
      ∧ exec (.wrApply 0x0002#16) (withTempo 300) = .next (withTempo 299) :=
  ⟨by decide, by decide, next_of (by decide), next_of (by decide)⟩

/-- P(121) = 5165: ACC + 1 just below it and at it. -/
theorem witness_ATempoTakesEffectAtItsNextUse :
    Ready { State.reset with acc := 5163#16 } ∧ (0x0001#16 : Word).toNat ≤ 2 ∧ State.reset.cfg.mode = .accum
      ∧ (5163#16 : Word).toNat + 1 < period State.reset.cfg (withTempo 121).tempo.toNat
      ∧ period State.reset.cfg (withTempo 121).tempo.toNat ≤ (5164#16 : Word).toNat + 1 := by decide

/-- ACC + 1 = P(120) − 1 and P(120), under either ACC_RESET, and MODE = FIXED. -/
theorem witness_TickAdvancesThePulseEngine :
    (Ready fixedReset ∧ fixedReset.cfg.mode = .fixed)
      ∧ (Ready { State.reset with acc := 5206#16 } ∧ State.reset.cfg.mode = .accum
        ∧ (5206#16 : Word).toNat + 1 < 60 * State.reset.cfg.timerHz / (State.reset.tempo.toNat * 24))
      ∧ (60 * State.reset.cfg.timerHz / (State.reset.tempo.toNat * 24) ≤ (5207#16 : Word).toNat + 1
        ∧ State.reset.cfg.accReset = .zero)
      ∧ Ready { State.afterReset subtractConfig 0b00#2 with acc := 5207#16 }
      ∧ StateInv { State.afterReset subtractConfig 0b00#2 with acc := 5207#16 } ∧ subtractConfig.accReset = .subtract := by
  decide

theorem witness_OneSubpulseEveryPeriodTicks :
    Ready (withTempo 20) ∧ (withTempo 20).cfg.mode = .accum ∧ (withTempo 20).acc = 0#16
      ∧ (withTempo 20).cfg.tempoMin ≤ (withTempo 20).tempo.toNat ∧ (withTempo 20).tempo.toNat ≤ (withTempo 20).cfg.tempoMax
      ∧ 31249 < period (withTempo 20).cfg (withTempo 20).tempo.toNat := by decide

theorem witness_OneBoundaryPerBoundaryDivSubpulses :
    (Ready fixedReset ∧ fixedReset.subpulse = 0#16 ∧ fixedReset.cfg.mode = .fixed ∧ 23 < boundaryDiv fixedReset.cfg)
      ∧ (Ready State.reset ∧ State.reset.subpulse = 0#16 ∧ State.reset.cfg.mode = .accum ∧ State.reset.acc = 0#16
        ∧ State.reset.cfg.tempoMin ≤ State.reset.tempo.toNat ∧ State.reset.tempo.toNat ≤ State.reset.cfg.tempoMax
        ∧ 5208 = period State.reset.cfg State.reset.tempo.toNat)
      ∧ 95 < boundaryDiv measureConfig := by decide

theorem witness_FixedModeTicksIgnoreTempo :
    Ready fixedReset ∧ fixedReset.cfg.mode = .fixed
      ∧ exec .tick fixedReset = .next { fixedReset with subpulse := 1#16, midiPend := 1#16 } :=
  ⟨by decide, by decide, next_of (by decide)⟩

theorem witness_PinsFollowsItsPseudocode : Ready (withPins 0b01#2 .trackR) := by decide

theorem witness_LeavingRestStartsTracking :
    Ready State.reset ∧ State.reset.decTrack = .idle ∧ State.reset.decPrev = 0b00#2 := by decide

/-- A two-bit change out of rest, away from rest, into rest; a TRACK_X rotation. -/
theorem witness_ATwoBitChangeAborts :
    (Ready State.reset ∧ 0b11#2 ^^^ State.reset.decPrev = 0b11#2 ∧ State.reset.decTrack = .idle)
      ∧ (Ready (withPins 0b10#2 .trackL) ∧ 0b01#2 ^^^ (withPins 0b10#2 .trackL).decPrev = 0b11#2)
      ∧ (Ready (withPins 0b11#2 .trackL) ∧ 0b00#2 ^^^ (withPins 0b11#2 .trackL).decPrev = 0b11#2
        ∧ (withPins 0b11#2 .trackL).decTrack ≠ .idle)
      ∧ Ready (withPins 0b01#2 .trackX) ∧ (withPins 0b01#2 .trackX).decTrack = .trackX
      ∧ (withPins 0b01#2 .trackX).decPrev ≠ 0b00#2 := by decide

theorem witness_EventsThatKeepTheTrackingState :
    Ready (withPins 0b11#2 .trackR) ∧ (withPins 0b11#2 .trackR).decTrack ≠ .idle
      ∧ 0b10#2 ^^^ (withPins 0b11#2 .trackR).decPrev = 0b01#2 ∧ 0b01#2 ^^^ (withPins 0b11#2 .trackR).decPrev = 0b10#2 := by
  decide

theorem witness_DirHoldsTheLastCommit :
    Ready { State.reset with dir := .left } ∧ ({ State.reset with dir := .left } : State).decTrack = .idle
      ∧ ({ State.reset with dir := .left } : State).decPrev = 0b00#2 := by decide

/-- LEFT, RIGHT and no commit each occur. -/
theorem witness_ReturnToRestCommitsOrLeavesDir :
    Ready (withPins 0b01#2 .trackL) ∧ (withPins 0b01#2 .trackL).decTrack ≠ .idle
      ∧ (withPins 0b01#2 .trackL).decPrev ≠ 0b00#2
      ∧ [(0b01#2, Track.trackL), (0b10#2, .trackR), (0b10#2, .trackL), (0b11#2, .trackR), (0b01#2, .trackX)].map
          (fun q => view (·.dir) (exec (.pins 0b00#2) (withPins q.1 q.2)))
        = [some .left, some .right, some .none, some .none, some .none] := by decide

theorem witness_CleanAndAbortedRotations :
    Ready State.reset ∧ State.reset.decTrack = .idle ∧ State.reset.decPrev = 0b00#2 ∧ State.reset.dir = .none
      ∧ [0b10#2, 0b11#2, 0b10#2, 0b00#2] ∈ [[0b10#2, 0b00#2], [0b01#2, 0b00#2], [0b10#2, 0b11#2, 0b10#2, 0b00#2]] := by
  decide

/-- A LEFT cycle, a RIGHT cycle, an aborted one of single-bit changes, and cycles with a two-bit change. -/
theorem witness_RestToRestCyclesCommitByFirstAndLastChange :
    Ready State.reset ∧ State.reset.decTrack = .idle ∧ State.reset.decPrev = 0b00#2
      ∧ (∀ evs ∈ [[0b10#2, 0b11#2, 0b01#2], [0b01#2, 0b11#2, 0b10#2], [0b10#2]],
        evs ≠ [] ∧ (∀ p ∈ evs, p ≠ 0b00#2) ∧ singleBitChanges 0b00#2 (evs ++ [0b00#2]) = true)
      ∧ ∀ evs ∈ [[0b11#2], [0b10#2, 0b01#2], [0b10#2, 0b11#2]],
        evs ≠ [] ∧ (∀ p ∈ evs, p ≠ 0b00#2) ∧ singleBitChanges 0b00#2 (evs ++ [0b00#2]) = false := by decide

theorem witness_WrTxDataStartsAWord :
    Ready State.reset ∧ State.reset.tx0.busy = false ∧ State.reset.tx1.busy = false
      ∧ Ready (sending 0#16 0) ∧ (sending 0#16 0).tx0.busy = true
      ∧ Ready { State.reset with tx1 := (sending 0#16 0).tx0 }
      ∧ ({ State.reset with tx1 := (sending 0#16 0).tx0 } : State).tx1.busy = true
      ∧ legalConfig Config.standard = true := by decide

/-- Each kind of line write, at the first and the last bit. -/
theorem witness_TxstepMakesTheScheduledLineWrite :
    (∀ p ∈ [0, 1, 2, 3, 46, 47, 48, 49], Ready (sending 0xFFFF#16 p)
        ∧ channel (sending 0xFFFF#16 p) .display = (sending 0xFFFF#16 p).tx0 ∧ (sending 0xFFFF#16 p).tx0.busy = true
        ∧ (sending 0xFFFF#16 p).tx0.pos.toNat = p)
      ∧ [1 + 3 * 0, 2 + 3 * 0, 3 + 3 * 0, 1 + 3 * 15, 2 + 3 * 15, 3 + 3 * 15] = [1, 2, 3, 46, 47, 48]
      ∧ Ready State.reset ∧ (channel State.reset .display).busy = false := by decide

theorem witness_OneTransmissionMakesExactlyItsLineChanges :
    Ready State.reset ∧ (channel State.reset .display).busy = false ∧ (channel State.reset .display).clk = false
      ∧ (channel State.reset .display).lat = true
      ∧ exec (wrTxData .display 0x063F#16) State.reset = .next
        { State.reset with tx0 := { State.reset.tx0 with busy := true, shreg := 0x063F#16 } } :=
  ⟨by decide, by decide, by decide, by decide, next_of (by decide)⟩

theorem witness_TheReceiverHoldsTheTransmittedWord :
    Ready State.reset ∧ (channel State.reset .cv).busy = false ∧ (channel State.reset .cv).clk = false
      ∧ exec (wrTxData .cv 0xABCD#16) State.reset = .next
        { State.reset with tx1 := { State.reset.tx1 with busy := true, shreg := 0xABCD#16 } } :=
  ⟨by decide, by decide, by decide, next_of (by decide)⟩

/-- The run in which one word takes s to t, and nothing happens after it. -/
def oneWordRun (s t : State) (n : Nat) : State :=
  match n with
  | 0 => s
  | _ + 1 => t

/-- A run of one word that leaves both channels idle follows its schedule and is fair. -/
theorem oneWordRun_fair {w : OpWord} {s t : State} (h : runWord w s = .next t) (h0 : t.tx0.busy = false)
    (h1 : t.tx1.busy = false) :
    Follows (scheduleOf [w]) (oneWordRun s t) ∧ Fair (scheduleOf [w]) (oneWordRun s t)
      ∧ runWords [w] (oneWordRun s t 0) = .next t := by
  refine ⟨fun n => ?_, fun c n _ => ⟨n + 1, by omega, .inr ?_⟩, by simp [oneWordRun, runWords, h, andThen]⟩
  · cases n
    · exact h
    · rfl
  · cases c
    · exact h0
    · exact h1

theorem witness_AStartedWordEndsWithinFiftySteps :
    (∀ p ∈ [0, 49], Ready (sending 0x063F#16 p) ∧ (channel (sending 0x063F#16 p) .display).busy = true
      ∧ (channel (sending 0x063F#16 p) .display).pos.toNat ≤ 49)
      ∧ (∃ t, Follows (scheduleOf [0x500000#24]) (oneWordRun (sending 0x063F#16 49) t)
          ∧ Fair (scheduleOf [0x500000#24]) (oneWordRun (sending 0x063F#16 49) t)
          ∧ runWords [0x500000#24] (oneWordRun (sending 0x063F#16 49) t 0) = .next t)
      ∧ ∃ t, Follows (scheduleOf [0x600000#24]) (oneWordRun (sending 0x063F#16 0) t)
          ∧ Fair (scheduleOf [0x600000#24]) (oneWordRun (sending 0x063F#16 0) t) :=
  ⟨by decide,
    ⟨{ State.reset with tx0 := { State.reset.tx0 with shreg := 0x063F#16, last := 0x063F#16 } },
      oneWordRun_fair (next_of (by decide)) rfl rfl⟩,
    State.reset, (oneWordRun_fair (next_of (by decide)) rfl rfl).imp_right And.left⟩

/-- A busy channel that never takes its step is not fair: what R259 rules out, and no other rule does. -/
theorem test_unfair_silence : Follows (scheduleOf []) (fun _ => sending 0x063F#16 7)
    ∧ ¬ Fair (scheduleOf []) fun _ => sending 0x063F#16 7 :=
  ⟨fun _ => rfl, fun h => by obtain ⟨m, -, h | h⟩ := h .display 0 rfl <;> cases h⟩

theorem witness_OtherOperationsLeaveAChannelAlone :
    exec .tick (sending 0x063F#16 7) = .next { sending 0x063F#16 7 with acc := 1#16 }
      ∧ Instr.tick ≠ .txstep .display ∧ (∀ w, Instr.tick ≠ wrTxData .display w) ∧ ∀ ab, Instr.tick ≠ .reset ab :=
  ⟨next_of (by decide), by decide, fun w => by simp [wrTxData], fun ab => by simp⟩

theorem witness_ResetGivesTheResetValues :
    legalConfig (sending 0xFFFF#16 20).cfg = true ∧ legalConfig beforeReset.cfg = true
      ∧ Config.standard.mode = .accum ∧ Config.standard.boundary = .beat ∧ Config.standard.timerHz = 250000 := by decide

theorem witness_StateResetIsTheStateAfterReset : legalConfig measureConfig = true := by decide

theorem witness_InvariantsHoldAfterReset : legalConfig subtractConfig = true := by decide

theorem witness_StepKeepsTheInvariant :
    StateInv { sending 0x063F#16 49 with input := [0x500000#24] }
      ∧ step { sending 0x063F#16 49 with input := [0x500000#24] } = .next
        { State.reset with tx0 := { State.reset.tx0 with shreg := 0x063F#16, last := 0x063F#16 } }
      ∧ startsWithReset [0x600003#24] = true
      ∧ runWords [0x600003#24] beforeReset = .next (State.afterReset Config.standard 0b11#2) :=
  ⟨by decide, next_of (by decide), by decide, next_of (by decide)⟩

theorem witness_StepKeepsTheWaveform :
    WaveformInv { (sending 0x8000#16 2).tx0 with dat := true } ∧ WaveformInv State.reset.tx1
      ∧ step { State.reset with tx0 := { (sending 0x8000#16 2).tx0 with dat := true }, input := [0x500000#24] } = .next
        { State.reset with tx0 := { (sending 0x8000#16 2).tx0 with dat := true, clk := true, pos := 3#6 } } :=
  ⟨by decide, by decide, next_of (by decide)⟩

theorem witness_ElementsChangeOnlyByTheirWriters :
    exec .rdDir State.reset = .next { State.reset with returned := [0#16] } ∧ (∀ ab, Instr.rdDir ≠ .reset ab)
      ∧ (∀ d, Instr.rdDir ≠ .wrApply d) ∧ (∀ cur, Instr.rdDir ≠ .pins cur) ∧ fixedReset.cfg.mode = .fixed :=
  ⟨next_of (by decide), fun ab => by simp, fun d => by simp, fun cur => by simp, by decide⟩

theorem witness_ParametersNeverChange :
    exec (.reset 0b00#2) State.reset = .next State.reset
      ∧ step { State.reset with input := [0x600000#24] } = .next State.reset :=
  ⟨next_of (by decide), next_of (by decide)⟩

/-- A read that returns a value, a read that faults, and an operation that is no read. -/
theorem witness_ExactlyTheReadsReturnData :
    exec .rdLines State.reset = .next { State.reset with returned := [0x0044#16] }
      ∧ exec .rdApply State.reset = .next { State.reset with fault := some ⟨.busReadWo, 0x120000#24⟩ }
      ∧ exec (.pins 0b00#2) State.reset = .next State.reset :=
  ⟨next_of (by decide), next_of (by decide), next_of (by decide)⟩

/-- A pair beyond R257's list (log 18): RD.ACC returns what the TICKs before it counted (43_pulse_engine.md R203, R208;
20_memory.md R67). -/
theorem test_tick_and_rd_acc_do_not_commute :
    runOps [.tick, .rdAcc] State.reset = .next { State.reset with acc := 1#16, returned := [1#16] }
      ∧ runOps [.rdAcc, .tick] State.reset = .next { State.reset with acc := 1#16, returned := [0#16] } :=
  ⟨next_of (by decide), next_of (by decide)⟩

theorem witness_IndependentAgentsCommute :
    Ready State.reset ∧ Ready { sending 0xA5A5#16 3 with tx1 := (sending 1#16 5).tx0 }
      ∧ ({ sending 0xA5A5#16 3 with tx1 := (sending 1#16 5).tx0 } : State).tx0.busy = true
      ∧ ({ sending 0xA5A5#16 3 with tx1 := (sending 1#16 5).tx0 } : State).tx1.busy = true := by decide

/-- Two states with one view that differ in POS and SHREG, and two with different views. -/
theorem witness_ReadsShowExactlyTheReadableElements :
    Ready (sending 0x0000#16 3) ∧ Ready (sending 0x0001#16 4) ∧ (sending 0x0000#16 3).cfg = (sending 0x0001#16 4).cfg
      ∧ hostView (sending 0x0000#16 3) = hostView (sending 0x0001#16 4)
      ∧ hostView (withTempo 119) ≠ hostView (withTempo 120) := by decide

end Sys2Proof.Tests
end

