-- ==== Sys2Proof/Proofs/Scope.lean ====
section
/-! The scope rules of 00_scope.md: which parameter sets are legal (R7), and which operations return data (R11). -/

namespace Sys2Proof.Machine

/-- Condition 4 of R7, in numbers. -/
theorem legalMeasure_iff (c : Config) : legalMeasure c = true ↔
    (c.boundary = .measure → 1 ≤ c.beatsPerMeasure ∧ 24 * c.beatsPerMeasure ≤ 65535) := by
  unfold legalMeasure
  cases c.boundary with
  | beat => simp
  | measure => exact decide_eq_true_iff.trans ⟨fun h _ => h, fun h => h rfl⟩

/-- Settles O9: the four conditions are `legalConfig_iff` with the last one in numbers; P(t) lies between its values
at TEMPO_MAX and TEMPO_MIN; and every arm of exec checks the parameter set first. -/
theorem legalParameterSets : Obligations.LegalParameterSets := by
  refine ⟨fun c => ?_, fun c t hl hmin hmax => period_bounds hl hmin hmax, fun i s hl => exec_illegal hl i⟩
  rw [← legalMeasure_iff]
  exact legalConfig_iff c

/-- A read of a register that the map lets the host read raises no fault after the first RESET
(60_exceptions.md R250). -/
theorem faultOf_readable {w : OpWord} {s : State} (hs : Ready s) (hk : kindOf w = 0x1#4)
    (ha : accessOf (addrOf w) = .ro ∨ accessOf (addrOf w) = .rc) : faultOf w s = none := by
  obtain ⟨-, hr⟩ := hs
  obtain ha | ha := ha <;> simp [faultOf, tableFault, hr, hk, ha]

/-- Settles O58, by the effects an operation can have: a fault or an operation that is no RD leaves the returned
values, and a RD of a readable register has no fault and returns one. -/
theorem exactlyTheReadsReturnData : Obligations.ExactlyTheReadsReturnData := by
  intro i s t h
  obtain ⟨-, he⟩ := exec_next h
  cases he with
  | fault _ _ code hf =>
    have hno : ¬ (kindOf (encode i) = 0x1#4 ∧ faultOf (encode i) s = none) := by simp [hf]
    rw [if_neg hno, raiseFault_returned]
  | rdStatus _ hs | rdTempo _ hs | rdPeriod _ hs | rdSubpulse _ hs | rdAcc _ hs | rdMidiPend _ hs | rdDir _ hs
  | rdTx0Last _ hs | rdTx1Last _ hs | rdLines _ hs =>
    rw [if_pos ⟨by decide, faultOf_readable hs (by decide) (by decide)⟩]
    exact ⟨_, busReturn_returned ..⟩
  | reset | wrApply | wrTx0Data | wrTx1Data | tick | pins | txstep => simp [encode]

end Sys2Proof.Machine
end

/-! The state of the core (10_state.md): what the read registers show of it, that the parameters stand still, and the
invariant that every step keeps. -/

namespace Sys2Proof.Machine

/-! ### Steps and runs -/

/-- A word that has a step spells an operation, and the operation has that step. -/
theorem runWord_next {w : OpWord} {s t : State} (h : runWord w s = .next t) :
    ∃ i, decode w = .operation i ∧ exec i s = .next t := by
  unfold runWord at h
  split at h
  · exact ⟨_, ‹_›, h⟩
  · cases h

/-- A step takes the first word, which spells an operation, and carries the operation out on the words after it. -/
theorem step_next {s t : State} (h : step s = .next t) :
    ∃ w ws i, s.input = w :: ws ∧ decode w = .operation i ∧ exec i { s with input := ws } = .next t := by
  unfold step takeWord at h
  cases hin : s.input with
  | nil => simp [hin] at h
  | cons w ws =>
    simp only [hin] at h
    obtain ⟨i, hd, he⟩ := runWord_next h
    exact ⟨w, ws, i, rfl, hd, he⟩

/-- A run over w :: ws that has a final state has w's step first, and from there the run over ws. -/
theorem runWords_cons_next {w : OpWord} {ws : List OpWord} {s t : State} (h : runWords (w :: ws) s = .next t) :
    ∃ i u, decode w = .operation i ∧ exec i s = .next u ∧ runWords ws u = .next t := by
  simp only [runWords] at h
  cases hw : runWord w s with
  | next u =>
    obtain ⟨i, hd, he⟩ := runWord_next hw
    exact ⟨i, u, hd, he, by simpa [hw, andThen] using h⟩
  | fault f => simp [hw, andThen] at h
  | refused r => simp [hw, andThen] at h

/-- A property that every operation keeps is kept by every run. -/
theorem runWords_keeps {P : State → Prop} (hP : ∀ i s t, P s → exec i s = .next t → P t) {ws : List OpWord}
    {s t : State} (hs : P s) (h : runWords ws s = .next t) : P t := by
  induction ws generalizing s with
  | nil => cases h; exact hs
  | cons w ws ih =>
    obtain ⟨i, u, -, he, hrest⟩ := runWords_cons_next h
    exact ih (hP i s u hs he) hrest

/-- A run whose first word's operation has a step is the run over the other words from there. -/
theorem runWords_cons {w : OpWord} {ws : List OpWord} {i : Instr} {s t : State} {r : Result}
    (hd : decode w = .operation i) (he : exec i s = .next t) (hrest : runWords ws t = r) :
    runWords (w :: ws) s = r := by
  simp [runWords, runWord, hd, he, andThen, hrest]

/-- The first word of a sequence that starts with a RESET decodes to a RESET. -/
theorem startsWithReset_cons {w : OpWord} {ws : List OpWord} (h : startsWithReset (w :: ws) = true) :
    ∃ ab, decode w = .operation (.reset ab) := by
  unfold startsWithReset at h
  simp only at h
  split at h
  · exact ⟨_, ‹_›⟩
  · cases h

/-! ### The parameters -/

/-- No operation changes the parameters or the words still to be taken. -/
theorem Effect.cfg_input {i : Instr} {s t : State} (h : Effect i s t) : t.cfg = s.cfg ∧ t.input = s.input := by
  cases h <;> simp

/-- Settles O57: a step is an operation on the state without its first word, and an operation keeps both. -/
theorem parametersNeverChange : Obligations.ParametersNeverChange := by
  have hexec : ∀ (i : Instr) (s t : State), exec i s = .next t → t.cfg = s.cfg ∧ t.input = s.input :=
    fun i s t h => (exec_next h).2.cfg_input
  refine ⟨hexec, fun s t h => ?_⟩
  obtain ⟨w, ws, i, hin, -, he⟩ := step_next h
  obtain ⟨hcfg, hws⟩ := hexec _ _ _ he
  exact ⟨hcfg, w, by rw [hin, hws]⟩

/-! ### The invariant -/

/-- BOUNDARY_DIV in numbers (43_pulse_engine.md R200). -/
theorem boundaryDiv_eq (c : Config) :
    boundaryDiv c = if c.boundary = .beat then 24 else 24 * c.beatsPerMeasure := by
  cases hb : c.boundary <;> simp [boundaryDiv, hb, subpulsesPerBeat]

/-- DIR never holds the code 0b11 (10_state.md R32). -/
theorem dirCode_ne_three (d : Direction) : dirCode d ≠ 0b11#2 := by cases d <;> decide

/-- A channel at rest meets the channel invariant. -/
theorem channelInv_idleChannel : ChannelInv idleChannel := by decide

/-- A channel on which a word has just been started meets the channel invariant: at POS = 0 LAT is free. -/
theorem channelInv_startWord (w : Word) (ch : Channel) : ChannelInv (startWord w ch) := by
  simp [ChannelInv, startWord]

@[simp] theorem bitWrite_busy (p : Nat) (ch : Channel) : (bitWrite p ch).busy = ch.busy := by
  unfold bitWrite; split <;> rfl

@[simp] theorem bitWrite_lat (p : Nat) (ch : Channel) : (bitWrite p ch).lat = ch.lat := by
  unfold bitWrite; split <;> rfl

/-- A line write keeps the channel invariant on a busy channel: the first lowers LAT, those of the bits leave it and
move POS on, the last raises it and ends the word (40_bitserial.md R112). -/
theorem channelInv_lineWrite {ch : Channel} (h : ChannelInv ch) (hbusy : ch.busy = true) :
    ChannelInv (lineWrite ch) := by
  obtain ⟨-, -, hlat⟩ := h
  unfold lineWrite
  split
  · simp [ChannelInv, hbusy]
  · split
    · refine ⟨by simp only [BitVec.toNat_ofNat]; omega, by simp [hbusy], fun _ => ?_⟩
      simpa using hlat ⟨hbusy, by omega⟩
    · simp [ChannelInv]

/-- What a pin event can do: it stores the pins and may set DEC_TRACK and DIR; where DEC_TRACK is IDLE after it, the
pins have returned to rest, or neither they nor DEC_TRACK has changed (41_decoder.md R141). -/
theorem pinChange_eq (cur : Pins) (s : State) : ∃ (track : Track) (d : Direction),
    pinChange cur s = { s with decPrev := cur, decTrack := track, dir := d }
      ∧ (track = .idle → cur = 0b00#2 ∨ cur = s.decPrev ∧ s.decTrack = .idle) := by
  unfold pinChange
  dsimp only
  split
  · rename_i hmask
    exact ⟨s.decTrack, s.dir, rfl, fun ht => .inr ⟨BitVec.xor_eq_zero_iff.1 hmask, ht⟩⟩
  · split
    · refine ⟨_, s.dir, rfl, fun ht => ?_⟩
      unfold leaveRest at ht
      split at ht
      · cases ht
      · split at ht <;> cases ht
    · rename_i htrack
      split
      · exact ⟨.idle, _, rfl, fun _ => .inl ‹_›⟩
      · refine ⟨_, s.dir, rfl, fun ht => ?_⟩
        unfold abortOnTwoBits at ht
        split at ht
        · cases ht
        · exact absurd ht htrack

/-- RESET makes the invariant hold: TEMPO_RESET is within the bounds of a legal parameter set (00_scope.md R7). -/
theorem stateInv_resetCore {s : State} (hl : legalConfig s.cfg = true) (ab : Pins) : StateInv (resetCore ab s) := by
  obtain ⟨⟨-, hmin, hmax, -⟩, -⟩ := (legalConfig_iff s.cfg).1 hl
  have hdiv := (boundaryDiv_bounds hl).1
  refine ⟨⟨hmin, hmax⟩, ?_, by simp, dirCode_ne_three .none, ?_, by simp [phaseBit], channelInv_idleChannel,
    channelInv_idleChannel, fun _ => rfl⟩
  · simp; omega
  · simp

/-- Replacing a channel by one that meets the channel invariant keeps the invariant. -/
theorem stateInv_setChannel {s : State} (h : StateInv s) (c : ChannelId) {ch : Channel} (hch : ChannelInv ch) :
    StateInv (setChannel c ch s) := by
  obtain ⟨htempo, hsub, hacc, hdir, hrest, hphase, htx0, htx1, hfixed⟩ := h
  cases c with
  | display => exact ⟨htempo, hsub, hacc, hdir, hrest, hphase, hch, htx1, hfixed⟩
  | cv => exact ⟨htempo, hsub, hacc, hdir, hrest, hphase, htx0, hch, hfixed⟩

/-- Each channel of a state that meets the invariant meets the channel invariant. -/
theorem stateInv_channel {s : State} (h : StateInv s) (c : ChannelId) : ChannelInv (channel s c) := by
  obtain ⟨-, -, -, -, -, -, htx0, htx1, -⟩ := h
  cases c with
  | display => exact htx0
  | cv => exact htx1

/-- WR.APPLY keeps the invariant: the new tempo is within its bounds, and fits its register. -/
theorem stateInv_applyTempo {s : State} (hl : legalConfig s.cfg = true) (h : StateInv s) (d : Direction) :
    StateInv (applyTempo d s) := by
  obtain ⟨⟨hmin, hmax⟩, hothers⟩ := h
  refine ⟨?_, hothers⟩
  rw [applyTempo_tempo, BitVec.toNat_ofNat, Nat.mod_eq_of_lt (tempoAfter_fits hl s.tempo d)]
  exact tempoAfter_bounds hl hmin hmax d

/-- A sub-pulse keeps the invariant: SUBPULSE counts on below BOUNDARY_DIV, and PHASE and GATE change together
(43_pulse_engine.md R202, R206). -/
theorem stateInv_afterSubpulse {s : State} (hl : legalConfig s.cfg = true) (h : StateInv s) {a : Word}
    (ha : a.toNat ≤ 65534) (hfixed : s.cfg.mode = .fixed → a = 0#16) : StateInv (afterSubpulse s a) := by
  obtain ⟨htempo, hsub, -, hdir, hrest, -, htx0, htx1, -⟩ := h
  obtain ⟨hdiv, hfits⟩ := boundaryDiv_bounds hl
  unfold afterSubpulse
  rw [← boundaryDiv_eq]
  split
  · exact ⟨htempo, by simp; omega, ha, hdir, hrest, rfl, htx0, htx1, hfixed⟩
  · have hnext : (s.subpulse + 1#16).toNat < boundaryDiv s.cfg := by
      rw [BitVec.toNat_add, BitVec.toNat_ofNat]
      omega
    exact ⟨htempo, hnext, ha, hdir, hrest, rfl, htx0, htx1, hfixed⟩

/-- What ACC keeps at a threshold of at least 1 is below 65535. -/
theorem accAtThreshold_le (r : AccReset) {a p : Nat} (ha : a ≤ 65535) (hp : 1 ≤ p) :
    (accAtThreshold r a p).toNat ≤ 65534 := by
  cases r with
  | zero => simp [accAtThreshold]
  | subtract =>
    simp only [accAtThreshold, BitVec.toNat_ofNat]
    omega

/-- TICK keeps the invariant, since P(TEMPO) is in 1..65535 (43_pulse_engine.md R203, R204). -/
theorem stateInv_timerEvent {s : State} (hl : legalConfig s.cfg = true) (h : StateInv s) : StateInv (timerEvent s) := by
  have ⟨⟨hmin, hmax⟩, hsub, hacc, hdir, hrest, hphase, htx0, htx1, hfixed⟩ := h
  obtain ⟨hp1, hp2⟩ := period_bounds hl hmin hmax
  rw [timerEvent_eq]
  split
  · exact stateInv_afterSubpulse hl h hacc hfixed
  · rename_i hmode
    split
    · exact stateInv_afterSubpulse hl h (accAtThreshold_le _ (by omega) hp1) fun hf => absurd hf hmode
    · have hcount : (s.acc + 1#16).toNat ≤ 65534 := by
        rw [BitVec.toNat_add, BitVec.toNat_ofNat]
        omega
      exact ⟨⟨hmin, hmax⟩, hsub, hcount, hdir, hrest, hphase, htx0, htx1, fun hf => absurd hf hmode⟩

/-- PINS keeps the invariant: DEC_TRACK becomes IDLE only at rest. -/
theorem stateInv_pinChange {s : State} (h : StateInv s) (cur : Pins) : StateInv (pinChange cur s) := by
  obtain ⟨htempo, hsub, hacc, -, hrest, hothers⟩ := h
  obtain ⟨track, d, heq, hidle⟩ := pinChange_eq cur s
  rw [heq]
  refine ⟨htempo, hsub, hacc, dirCode_ne_three d, fun ht => ?_, hothers⟩
  obtain h0 | ⟨hsame, hwas⟩ := hidle ht
  · exact h0
  · exact hsame.trans (hrest hwas)

/-- Every operation keeps the invariant. -/
theorem exec_keeps_stateInv (i : Instr) (s t : State) (h : StateInv s) (he : exec i s = .next t) : StateInv t := by
  obtain ⟨hl, heff⟩ := exec_next he
  cases heff with
  | fault code hf => simpa [StateInv] using h
  | reset ab => exact stateInv_resetCore hl ab
  | rdDir =>
    obtain ⟨htempo, hsub, hacc, -, hothers⟩ := h
    exact ⟨htempo, hsub, hacc, dirCode_ne_three .none, hothers⟩
  | wrApply d dir => exact stateInv_applyTempo hl h dir
  | wrTx0Data w => exact stateInv_setChannel h .display (channelInv_startWord w s.tx0)
  | wrTx1Data w => exact stateInv_setChannel h .cv (channelInv_startWord w s.tx1)
  | tick => exact stateInv_timerEvent hl h
  | pins cur => exact stateInv_pinChange h cur
  | txstep c _ _ hb => exact stateInv_setChannel h c (channelInv_lineWrite (stateInv_channel h c) hb)
  | rdStatus | rdTempo | rdPeriod | rdSubpulse | rdAcc | rdMidiPend | rdTx0Last | rdTx1Last | rdLines => exact h

/-- Settles O54: a step is an operation, and every operation keeps the invariant; a run's first RESET, which has a step
only under a legal parameter set, makes it hold. -/
theorem stepKeepsTheInvariant : Obligations.StepKeepsTheInvariant := by
  refine ⟨fun s t h hstep => ?_, fun c ws t hreset hrun => ?_⟩
  · obtain ⟨w, ws, i, -, -, he⟩ := step_next hstep
    exact exec_keeps_stateInv i { s with input := ws } t h he
  · cases ws with
    | nil => cases hreset
    | cons w ws =>
      obtain ⟨ab, hd⟩ := startsWithReset_cons hreset
      obtain ⟨i, u, hd', he, hrest⟩ := runWords_cons_next hrun
      rw [hd] at hd'
      cases hd'
      obtain ⟨hl, hu⟩ := underLegal_next he
      cases hu
      exact runWords_keeps exec_keeps_stateInv (stateInv_resetCore hl ab) hrest

/-! ### STATUS and LINES, bit for bit -/

/-- The one-bit fields of STATUS (10_state.md R40). -/
theorem statusWord_bits (s : State) :
    (statusWord s).getLsbD 0 = s.beatInd ∧ (statusWord s).getLsbD 1 = s.gate
      ∧ (statusWord s).getLsbD 2 = phaseBit s.phase
      ∧ (statusWord s).getLsbD 3 = s.tx0.busy ∧ (statusWord s).getLsbD 4 = s.tx1.busy
      ∧ (statusWord s).getLsbD 11 = modeBit s.cfg.mode ∧ (statusWord s).getLsbD 12 = boundaryBit s.cfg.boundary := by
  simp only [statusWord, zext16, BitVec.getLsbD_setWidth, BitVec.getLsbD_append]
  simp

/-- The two-bit fields of STATUS (10_state.md R40). -/
theorem statusWord_codes (s : State) :
    (statusWord s).extractLsb' 5 2 = trackCode s.decTrack ∧ (statusWord s).extractLsb' 7 2 = s.decPrev
      ∧ (statusWord s).extractLsb' 9 2 = dirCode s.dir := by
  simp (disch := decide) only [statusWord, zext16, BitVec.extractLsb'_setWidth_of_le,
    BitVec.extractLsb'_append_eq_of_le, BitVec.extractLsb'_append_eq_of_add_le]
  simp

/-- The bits of STATUS above its fields (10_state.md R40). -/
theorem statusWord_reserved (s : State) : (statusWord s).extractLsb' 13 3 = 0#3 := by
  ext i hi
  simp [statusWord, zext16]

/-- The bits of LINES (10_state.md R50). -/
theorem linesWord_bits (s : State) :
    (linesWord s).getLsbD 0 = s.tx0.clk ∧ (linesWord s).getLsbD 1 = s.tx0.dat ∧ (linesWord s).getLsbD 2 = s.tx0.lat
      ∧ (linesWord s).getLsbD 3 = false
      ∧ (linesWord s).getLsbD 4 = s.tx1.clk ∧ (linesWord s).getLsbD 5 = s.tx1.dat
      ∧ (linesWord s).getLsbD 6 = s.tx1.lat := by
  simp only [linesWord, zext16, BitVec.getLsbD_setWidth, BitVec.getLsbD_append]
  simp

/-- The bits of LINES above its fields (10_state.md R50). -/
theorem linesWord_reserved (s : State) : (linesWord s).extractLsb' 7 9 = 0#9 := by
  ext i hi
  simp [linesWord, zext16]

/-! The one-bit codes as tests, the form in which 10_state.md R40 names them. -/

theorem phaseBit_eq (p : Phase) : phaseBit p = decide (p = .atBeatBoundary) := by cases p <;> rfl

theorem modeBit_eq (m : Mode) : modeBit m = decide (m = .fixed) := by cases m <;> rfl

theorem boundaryBit_eq (b : Boundary) : boundaryBit b = decide (b = .measure) := by cases b <;> rfl

/-- A pin event leaves the core ready. -/
theorem ready_pinChange {s : State} (hs : Ready s) (cur : Pins) : Ready (pinChange cur s) := by
  simpa [Ready] using hs

/-- A PINS word is one pin event. -/
theorem runWords_pins {s : State} (hs : Ready s) (cur : Pins) (ws : List OpWord) :
    runWords (encode (.pins cur) :: ws) s = runWords ws (pinChange cur s) :=
  runWords_cons (by revert cur; decide) (exec_pins hs cur) rfl

/-- The events of ROTL from rest, with the decoder idle, set DIR to LEFT and change nothing else (30_encoding.md R97,
41_decoder.md R144). -/
theorem pinChange_rotL {s : State} (htrack : s.decTrack = .idle) (hprev : s.decPrev = 0b00#2) :
    pinChange 0b00#2 (pinChange 0b01#2 (pinChange 0b11#2 (pinChange 0b10#2 s))) = { s with dir := .left } := by
  simp [pinChange, transitionMask, leaveRest, abortOnTwoBits, commit, htrack, hprev]

/-- The words of ROTL from rest, with the decoder idle, set DIR to LEFT and change nothing else. -/
theorem runWords_rotL {s : State} (hs : Ready s) (htrack : s.decTrack = .idle) (hprev : s.decPrev = 0b00#2)
    (ws : List OpWord) : runWords (rotL ++ ws) s = runWords ws { s with dir := .left } := by
  have h1 := ready_pinChange hs 0b10#2
  have h2 := ready_pinChange h1 0b11#2
  have h3 := ready_pinChange h2 0b01#2
  simp only [rotL, List.cons_append, List.nil_append]
  rw [runWords_pins hs, runWords_pins h1, runWords_pins h2, runWords_pins h3, pinChange_rotL htrack hprev]

/-- After a reset with the default MODE and BOUNDARY, STATUS shows DIR alone. -/
theorem statusWord_afterReset {c : Config} (hm : c.mode = .accum) (hb : c.boundary = .beat) (d : Direction) :
    statusWord { State.afterReset c 0b00#2 with dir := d } = zext16 (dirCode d) <<< 9 := by
  simp only [statusWord, State.afterReset, hm, hb]
  cases d <;> decide

/-- Settles O19: the fields are those of `statusWord`; a reset state shows DIR alone, and ROTL sets DIR to LEFT. -/
theorem rdStatusReturnsItsFields : Obligations.RdStatusReturnsItsFields := by
  refine ⟨fun s hs => ⟨statusWord s, exec_rdStatus hs, ?_⟩, by decide, fun c hl hm hb => ?_⟩
  · obtain ⟨hbeat, hgate, hphase, htx0, htx1, hmode, hboundary⟩ := statusWord_bits s
    obtain ⟨htrack, hprev, hdir⟩ := statusWord_codes s
    exact ⟨hbeat, hgate, hphase.trans (phaseBit_eq _), htx0, htx1, htrack, hprev, hdir, hmode.trans (modeBit_eq _),
      hboundary.trans (boundaryBit_eq _), statusWord_reserved s⟩
  · have hs : Ready (State.afterReset c 0b00#2) := ⟨hl, rfl⟩
    constructor
    · rw [exec_rdStatus hs, show statusWord (State.afterReset c 0b00#2) = 0x0000#16 from
        statusWord_afterReset hm hb .none]
      rfl
    · rw [runWords_rotL hs rfl rfl]
      refine runWords_cons (by decide) (exec_rdStatus hs) ?_
      rw [statusWord_afterReset hm hb]
      rfl

/-- After a reset LINES shows both LAT levels alone. -/
theorem linesWord_afterReset (c : Config) (ab : Pins) : linesWord (State.afterReset c ab) = 0x0044#16 := by
  simp only [linesWord, State.afterReset, Channel.reset]
  decide

/-- Settles O27: the levels are those of `linesWord`; the example runs the start write and three line writes. -/
theorem rdLinesReturnsTheLevels : Obligations.RdLinesReturnsTheLevels := by
  refine ⟨fun s hs => ⟨linesWord s, exec_rdLines hs, ?_⟩, by decide, fun c ab hl => ?_⟩
  · obtain ⟨hclk0, hdat0, hlat0, h3, hclk1, hdat1, hlat1⟩ := linesWord_bits s
    exact ⟨hclk0, hdat0, hlat0, h3, hclk1, hdat1, hlat1, linesWord_reserved s⟩
  · have hs : Ready (State.afterReset c ab) := ⟨hl, rfl⟩
    constructor
    · rw [exec_rdLines hs, linesWord_afterReset]
      rfl
    · refine ⟨_, runWords_cons (by decide) (exec_wrTxData hs .display 0x063F#16 rfl)
        <| runWords_cons (i := .txstep .display) (by decide) (exec_txstep (by simpa using hs) rfl)
        <| runWords_cons (i := .txstep .display) (by decide) (exec_txstep (by simpa using hs) rfl)
        <| runWords_cons (i := .txstep .display) (by decide) (exec_txstep (by simpa using hs) rfl)
        <| runWords_cons (by decide) (exec_rdLines (by simpa using hs)) rfl, ?_⟩
      simp only [busReturn_returned, linesWord, State.afterReset, Channel.reset, setChannel_display, channel_display]
      decide

/-! ### What the reads show -/

/-! No two values of PHASE, DEC_TRACK or DIR share a code. -/

theorem phaseBit_injective : Function.Injective phaseBit := by
  intro a b h
  cases a <;> cases b <;> simp [phaseBit] at h ⊢

theorem trackCode_injective : Function.Injective trackCode := by
  intro a b h
  cases a <;> cases b <;> simp [trackCode] at h ⊢

theorem dirCode_injective : Function.Injective dirCode := by
  intro a b h
  cases a <;> cases b <;> simp [dirCode] at h ⊢

/-- The values that a RD operation returns: one where its register is readable, none where it faults
(60_exceptions.md R265). -/
def readValues (i : Instr) (s : State) : List Word :=
  match i with
  | .rdStatus => [statusWord s]
  | .rdTempo => [s.tempo]
  | .rdPeriod => [BitVec.ofNat 16 (period s.cfg s.tempo.toNat)]
  | .rdSubpulse => [s.subpulse]
  | .rdAcc => [s.acc]
  | .rdMidiPend => [s.midiPend]
  | .rdDir => [zext16 (dirCode s.dir)]
  | .rdTx0Last => [s.tx0.last]
  | .rdTx1Last => [s.tx1.last]
  | .rdLines => [linesWord s]
  | _ => []

/-- An illegal bus access has a step after a RESET, and returns nothing. -/
theorem alwaysFaults_returns {s : State} (hs : Ready s) (code : FaultCode) (i : Instr) :
    ∃ t, alwaysFaults code i s = .next t ∧ t.returned = s.returned ++ [] :=
  ⟨_, onceReset_of_ready hs, by simp⟩

/-- After a RESET every bus read has a step, in which it returns its values. -/
theorem busRead_returns {s : State} (hs : Ready s) (a : RegAddr) :
    ∃ t, busRead a s = .next t ∧ returnedBy s t = readValues (rdInstr a) s := by
  suffices h : ∃ t, exec (rdInstr a) s = .next t ∧ t.returned = s.returned ++ readValues (rdInstr a) s by
    obtain ⟨t, ht, hr⟩ := h
    exact ⟨t, ht, by rw [returnedBy, hr, List.drop_left]⟩
  unfold rdInstr
  split
  · exact ⟨_, exec_rdStatus hs, rfl⟩
  · exact ⟨_, exec_rdTempo hs, rfl⟩
  · exact alwaysFaults_returns hs _ _
  · exact ⟨_, exec_rdPeriod hs, rfl⟩
  · exact ⟨_, exec_rdSubpulse hs, rfl⟩
  · exact ⟨_, exec_rdAcc hs, rfl⟩
  · exact ⟨_, exec_rdMidiPend hs, rfl⟩
  · exact ⟨_, exec_rdDir hs, rfl⟩
  · exact alwaysFaults_returns hs _ _
  · exact alwaysFaults_returns hs _ _
  · exact ⟨_, exec_rdTx0Last hs, rfl⟩
  · exact ⟨_, exec_rdTx1Last hs, rfl⟩
  · exact ⟨_, exec_rdLines hs, rfl⟩
  · exact alwaysFaults_returns hs _ _
  · exact alwaysFaults_returns hs _ _
  · exact alwaysFaults_returns hs _ _

/-- The values that a read returns depend on the parameters and the readable elements alone. -/
theorem readValues_congr {s u : State} (hcfg : s.cfg = u.cfg) (h : hostView s = hostView u) (i : Instr) :
    readValues i s = readValues i u := by
  simp only [hostView, HostView.mk.injEq, Prod.mk.injEq] at h
  unfold readValues
  split <;> simp [statusWord, linesWord, hcfg, h]

/-- Equal STATUS words show equal fields. -/
theorem statusWord_inj {s u : State} (h : statusWord s = statusWord u) :
    s.beatInd = u.beatInd ∧ s.gate = u.gate ∧ s.phase = u.phase ∧ s.tx0.busy = u.tx0.busy ∧ s.tx1.busy = u.tx1.busy
      ∧ s.decTrack = u.decTrack ∧ s.decPrev = u.decPrev ∧ s.dir = u.dir := by
  obtain ⟨hbeat, hgate, hphase, htx0, htx1, -, -⟩ := statusWord_bits s
  obtain ⟨htrack, hprev, hdir⟩ := statusWord_codes s
  rw [h] at *
  obtain ⟨hbeat', hgate', hphase', htx0', htx1', -, -⟩ := statusWord_bits u
  obtain ⟨htrack', hprev', hdir'⟩ := statusWord_codes u
  exact ⟨hbeat.symm.trans hbeat', hgate.symm.trans hgate', phaseBit_injective (hphase.symm.trans hphase'),
    htx0.symm.trans htx0', htx1.symm.trans htx1', trackCode_injective (htrack.symm.trans htrack'),
    hprev.symm.trans hprev', dirCode_injective (hdir.symm.trans hdir')⟩

/-- Equal LINES words show equal levels. -/
theorem linesWord_inj {s u : State} (h : linesWord s = linesWord u) :
    (s.tx0.clk = u.tx0.clk ∧ s.tx0.dat = u.tx0.dat ∧ s.tx0.lat = u.tx0.lat)
      ∧ s.tx1.clk = u.tx1.clk ∧ s.tx1.dat = u.tx1.dat ∧ s.tx1.lat = u.tx1.lat := by
  have hs := linesWord_bits s
  have hu := linesWord_bits u
  rw [h] at hs
  simp_all

/-- Each readable element shows in some read. -/
theorem hostView_of_readValues {s u : State} (h : ∀ a, readValues (rdInstr a) s = readValues (rdInstr a) u) :
    hostView s = hostView u := by
  have hstatus := statusWord_inj (List.head_eq_of_cons_eq (h 0x0#4))
  have hlines := linesWord_inj (List.head_eq_of_cons_eq (h 0xC#4))
  have htempo : s.tempo = u.tempo := List.head_eq_of_cons_eq (h 0x1#4)
  have hsub : s.subpulse = u.subpulse := List.head_eq_of_cons_eq (h 0x4#4)
  have hacc : s.acc = u.acc := List.head_eq_of_cons_eq (h 0x5#4)
  have hmidi : s.midiPend = u.midiPend := List.head_eq_of_cons_eq (h 0x6#4)
  have hlast0 : s.tx0.last = u.tx0.last := List.head_eq_of_cons_eq (h 0xA#4)
  have hlast1 : s.tx1.last = u.tx1.last := List.head_eq_of_cons_eq (h 0xB#4)
  simp [hostView, *]

/-- Settles O60: every read has a step that returns `readValues`, and these agree exactly when the views do. -/
theorem readsShowExactlyTheReadableElements : Obligations.ReadsShowExactlyTheReadableElements := by
  intro s u hs hu hcfg
  constructor
  · intro hview a
    obtain ⟨s', hs', hrs⟩ := busRead_returns hs a
    obtain ⟨u', hu', hru⟩ := busRead_returns hu a
    exact ⟨s', u', hs', hu', by rw [hrs, hru, readValues_congr hcfg hview]⟩
  · intro hreads
    refine hostView_of_readValues fun a => ?_
    obtain ⟨s', u', hs', hu', heq⟩ := hreads a
    obtain ⟨s'', hs'', hrs⟩ := busRead_returns hs a
    obtain ⟨u'', hu'', hru⟩ := busRead_returns hu a
    cases hs'.symm.trans hs''
    cases hu'.symm.trans hu''
    rw [← hrs, ← hru, heq]

end Sys2Proof.Machine

/-! The register map and the writers of each state element (20_memory.md): the access type of an address decides what
a bus access of it does (R73), and an element changes only by its own operations and RESET (R68). -/

namespace Sys2Proof.Machine

/-! ### Access types -/

section AccessTypes

variable {s : State}

/-- The first fault that the table gives an operation's word is recorded, and nothing else changes. -/
theorem exec_firstFault (hs : Ready s) (hf : s.fault = none) {i : Instr} {code : FaultCode}
    (h : tableFault (encode i) s = some code) : exec i s = .next { s with fault := some ⟨code, encode i⟩ } := by
  rw [exec_of_faultOf hs.1 (show faultOf (encode i) s = some code by simp [faultOf, hs.2, h]), raiseFault_of_none hf]

/-- A bus read whose word has a fault in the table records it with the read's word. -/
theorem busRead_firstFault (hs : Ready s) (hf : s.fault = none) {a : RegAddr} {code : FaultCode}
    (h : tableFault (opWord 0x1#4 a 0#16) s = some code) :
    busRead a s = .next { s with fault := some ⟨code, opWord 0x1#4 a 0#16⟩ } := by
  rw [← encode_rdInstr] at h ⊢
  exact exec_firstFault hs hf h

/-- A bus write whose word has a fault in the table records it with the write's word. -/
theorem busWrite_firstFault (hs : Ready s) (hf : s.fault = none) {a : RegAddr} {d : Word} {code : FaultCode}
    (h : tableFault (opWord 0x2#4 a d) s = some code) :
    busWrite a d s = .next { s with fault := some ⟨code, opWord 0x2#4 a d⟩ } := by
  rw [← encode_wrInstr] at h ⊢
  exact exec_firstFault hs hf h

/-- A read of a RO address returns a value and changes nothing else. -/
theorem busRead_ro (hs : Ready s) {a : RegAddr} (ha : accessOf a = .ro) :
    ∃ x, busRead a s = .next (busReturn x s) := by
  have hcases : a = 0x0#4 ∨ a = 0x1#4 ∨ a = 0x3#4 ∨ a = 0x4#4 ∨ a = 0x5#4 ∨ a = 0xA#4 ∨ a = 0xB#4 ∨ a = 0xC#4 := by
    revert a; decide
  obtain rfl | rfl | rfl | rfl | rfl | rfl | rfl | rfl := hcases
  · exact ⟨_, exec_rdStatus hs⟩
  · exact ⟨_, exec_rdTempo hs⟩
  · exact ⟨_, exec_rdPeriod hs⟩
  · exact ⟨_, exec_rdSubpulse hs⟩
  · exact ⟨_, exec_rdAcc hs⟩
  · exact ⟨_, exec_rdTx0Last hs⟩
  · exact ⟨_, exec_rdTx1Last hs⟩
  · exact ⟨_, exec_rdLines hs⟩

/-- A read of a RC address returns a value and raises no fault, and the next read of it returns 0. -/
theorem busRead_rc (hs : Ready s) {a : RegAddr} (ha : accessOf a = .rc) :
    ∃ x t, busRead a s = .next t ∧ t.returned = s.returned ++ [x] ∧ t.fault = s.fault
      ∧ busRead a t = .next (busReturn 0#16 t) := by
  have hcases : a = 0x6#4 ∨ a = 0x7#4 := by revert a; decide
  obtain rfl | rfl := hcases
  · exact ⟨_, _, exec_rdMidiPend hs, rfl, rfl, exec_rdMidiPend hs⟩
  · exact ⟨_, _, exec_rdDir hs, rfl, rfl, exec_rdDir hs⟩

/-- WR.APPLY has a step that returns nothing, and its only fault is APPLY_RESERVED (42_tempo.md R173). -/
theorem exec_wrApply_faults (hs : Ready s) (hf : s.fault = none) (d : Word) :
    ∃ t, exec (.wrApply d) s = .next t ∧ t.returned = s.returned
      ∧ ∀ f, t.fault = some f → f.code = .applyReserved := by
  cases hd : applyDirection d with
  | some dir => exact ⟨_, exec_wrApply hs hd, rfl, by simp [hf]⟩
  | none => exact ⟨_, exec_wrApply_reserved hs hd, by simp, by simp [hf]⟩

/-- A start write has a step that returns nothing, and its only fault is TX_BUSY (40_bitserial.md R111). -/
theorem exec_wrTxData_faults (hs : Ready s) (hf : s.fault = none) (c : ChannelId) (w : Word) :
    ∃ t, exec (wrTxData c w) s = .next t ∧ t.returned = s.returned
      ∧ ∀ f, t.fault = some f → f.code = .txBusy := by
  cases hb : (channel s c).busy with
  | false => exact ⟨_, exec_wrTxData hs c w hb, by simp, by simp [hf]⟩
  | true => exact ⟨_, exec_wrTxData_busy hs c w hb, by simp, by simp [hf]⟩

/-- A write of a WO address has a step that returns nothing, and its only faults are APPLY_RESERVED and TX_BUSY. -/
theorem busWrite_wo (hs : Ready s) (hf : s.fault = none) {a : RegAddr} (ha : accessOf a = .wo) (d : Word) :
    ∃ t, busWrite a d s = .next t ∧ t.returned = s.returned
      ∧ ∀ f, t.fault = some f → f.code = .applyReserved ∨ f.code = .txBusy := by
  have hcases : a = 0x2#4 ∨ a = 0x8#4 ∨ a = 0x9#4 := by revert a; decide
  obtain rfl | rfl | rfl := hcases
  · obtain ⟨t, ht, hret, hcode⟩ := exec_wrApply_faults hs hf d
    exact ⟨t, ht, hret, fun f h => .inl (hcode f h)⟩
  · obtain ⟨t, ht, hret, hcode⟩ := exec_wrTxData_faults hs hf .display d
    exact ⟨t, ht, hret, fun f h => .inr (hcode f h)⟩
  · obtain ⟨t, ht, hret, hcode⟩ := exec_wrTxData_faults hs hf .cv d
    exact ⟨t, ht, hret, fun f h => .inr (hcode f h)⟩

end AccessTypes

/-- Settles O18: by the access type of the address, each access is the fault that the table gives its word, or one of
the legal reads and writes above. -/
theorem accessTypesOfTheRegisterMap : Obligations.AccessTypesOfTheRegisterMap := by
  intro a d s hs hf
  cases ha : accessOf a with
  | unassigned =>
    exact ⟨busRead_firstFault hs hf (by simp [tableFault, ha]), busWrite_firstFault hs hf (by simp [tableFault, ha])⟩
  | wo => exact ⟨busRead_firstFault hs hf (by simp [tableFault, ha]), busWrite_wo hs hf ha d⟩
  | ro => exact ⟨busRead_ro hs ha, busWrite_firstFault hs hf (by simp [tableFault, ha])⟩
  | rc =>
    obtain ⟨x, t, ht, hret, hfault, hagain⟩ := busRead_rc hs ha
    exact ⟨⟨x, t, ht, hret, hfault.trans hf, hagain⟩, busWrite_firstFault hs hf (by simp [tableFault, ha])⟩

/-! ### The writers of each element -/

@[simp] theorem afterSubpulse_acc (s : State) (a : Word) : (afterSubpulse s a).acc = a := by
  simp only [afterSubpulse, apply_ite State.acc, ite_self]

@[simp] theorem bitWrite_shreg (p : Nat) (ch : Channel) : (bitWrite p ch).shreg = ch.shreg := by
  unfold bitWrite; split <;> rfl

/-- No line write changes the word being sent (40_bitserial.md R112). -/
@[simp] theorem lineWrite_shreg (ch : Channel) : (lineWrite ch).shreg = ch.shreg := by
  unfold lineWrite
  split
  · rfl
  · split
    · exact bitWrite_shreg _ ch
    · rfl

namespace Effect

variable {i : Instr} {s t : State}

section NotReset

variable (h : Effect i s t) (hreset : ∀ ab, i ≠ .reset ab)
include h hreset

theorem tempo_eq (hi : ∀ d, i ≠ .wrApply d) : t.tempo = s.tempo := by
  cases h with
  | reset ab => exact absurd rfl (hreset ab)
  | wrApply d => exact absurd rfl (hi d)
  | _ => simp

/-- Only TICK writes the elements of the pulse engine that no read clears. -/
theorem pulse_eq (hi : i ≠ .tick) :
    t.subpulse = s.subpulse ∧ t.acc = s.acc ∧ t.beatInd = s.beatInd ∧ t.gate = s.gate ∧ t.phase = s.phase := by
  cases h with
  | reset ab => exact absurd rfl (hreset ab)
  | tick => exact absurd rfl hi
  | _ => simp

/-- With MODE = FIXED a TICK is a sub-pulse that leaves ACC (43_pulse_engine.md R204). -/
theorem acc_eq_of_fixed (hfixed : s.cfg.mode = .fixed) : t.acc = s.acc := by
  by_cases hi : i = .tick
  · subst hi
    cases h with
    | tick => rw [timerEvent_eq, if_pos hfixed, afterSubpulse_acc]
    | fault => simp
  · obtain ⟨-, hacc, -⟩ := pulse_eq h hreset hi
    exact hacc

theorem midiPend_eq (htick : i ≠ .tick) (hread : i ≠ .rdMidiPend) : t.midiPend = s.midiPend := by
  cases h with
  | reset ab => exact absurd rfl (hreset ab)
  | tick => exact absurd rfl htick
  | rdMidiPend => exact absurd rfl hread
  | _ => simp

theorem decoder_eq (hi : ∀ cur, i ≠ .pins cur) : t.decPrev = s.decPrev ∧ t.decTrack = s.decTrack := by
  cases h with
  | reset ab => exact absurd rfl (hreset ab)
  | pins cur => exact absurd rfl (hi cur)
  | _ => simp

theorem dir_eq (hpins : ∀ cur, i ≠ .pins cur) (hread : i ≠ .rdDir) : t.dir = s.dir := by
  cases h with
  | reset ab => exact absurd rfl (hreset ab)
  | pins cur => exact absurd rfl (hpins cur)
  | rdDir => exact absurd rfl hread
  | _ => simp

/-- All that an operation but RESET can do to a channel: nothing, its start write, or its line write. -/
theorem channel_cases (c : ChannelId) :
    channel t c = channel s c ∨ (∃ w, i = wrTxData c w ∧ channel t c = startWord w (channel s c))
      ∨ i = .txstep c ∧ channel t c = lineWrite (channel s c) := by
  cases h with
  | reset ab => exact absurd rfl (hreset ab)
  | wrTx0Data w =>
    cases c with
    | display => exact .inr (.inl ⟨w, rfl, rfl⟩)
    | cv => exact .inl rfl
  | wrTx1Data w =>
    cases c with
    | display => exact .inl rfl
    | cv => exact .inr (.inl ⟨w, rfl, rfl⟩)
  | txstep b =>
    by_cases hc : c = b
    · subst hc
      exact .inr (.inr ⟨rfl, channel_setChannel_same ..⟩)
    · exact .inl ((channel_setChannel ..).trans (if_neg hc))
  | _ => exact .inl (by cases c <;> simp)

theorem shreg_eq (c : ChannelId) (hi : ∀ w, i ≠ wrTxData c w) : (channel t c).shreg = (channel s c).shreg := by
  obtain hc | ⟨w, hw, -⟩ | ⟨-, hc⟩ := channel_cases h hreset c
  · rw [hc]
  · exact absurd hw (hi w)
  · rw [hc, lineWrite_shreg]

/-- A start write leaves LAST and the lines (40_bitserial.md R111). -/
theorem last_lines_eq (c : ChannelId) (hi : i ≠ .txstep c) :
    (channel t c).last = (channel s c).last ∧ (channel t c).clk = (channel s c).clk
      ∧ (channel t c).dat = (channel s c).dat ∧ (channel t c).lat = (channel s c).lat := by
  obtain hc | ⟨w, -, hc⟩ | ⟨hstep, -⟩ := channel_cases h hreset c
  · simp [hc]
  · simp [hc, startWord]
  · exact absurd hstep hi

theorem channel_eq (c : ChannelId) (hstart : ∀ w, i ≠ wrTxData c w) (hstep : i ≠ .txstep c) :
    channel t c = channel s c := by
  obtain hc | ⟨w, hw, -⟩ | ⟨hw, -⟩ := channel_cases h hreset c
  · exact hc
  · exact absurd hw (hstart w)
  · exact absurd hw hstep

end NotReset

end Effect

/-- Settles O56: exec answers one of the effects, and each element is left by all of them but its writers'. -/
theorem elementsChangeOnlyByTheirWriters : Obligations.ElementsChangeOnlyByTheirWriters := by
  intro i s t h hreset
  obtain ⟨-, he⟩ := exec_next h
  refine ⟨he.tempo_eq hreset, he.pulse_eq hreset, he.acc_eq_of_fixed hreset, he.midiPend_eq hreset,
    he.decoder_eq hreset, he.dir_eq hreset, fun c => ⟨he.shreg_eq hreset c, he.last_lines_eq hreset c, ?_⟩⟩
  intro hstart hstep
  rw [he.channel_eq hreset c hstart hstep]
  exact ⟨rfl, rfl⟩

end Sys2Proof.Machine

/-! The encoding (30_encoding.md): what each word spells, which words are refused (R88), and the rows of the opcode
table (R91). The formats R82 to R87 are the relation `Spells`; the decoder, the encoder and the table are each compared
with it once. -/

namespace Sys2Proof.Machine

/-! ### The formats -/

/-- The word w spells the operation i: one constructor per format of 30_encoding.md R82 to R87. -/
inductive Spells : OpWord → Instr → Prop where
  | rd (a : RegAddr) : Spells (opWord 0x1#4 a 0#16) (rdInstr a)
  | wr (a : RegAddr) (d : Word) : Spells (opWord 0x2#4 a d) (wrInstr a d)
  | tick : Spells (opWord 0x3#4 0#4 0#16) .tick
  | pins (cur : Pins) : Spells (opWord 0x4#4 0#4 (cur.setWidth 16)) (.pins cur)
  | txstep (c : ChannelId) : Spells (opWord 0x5#4 0#4 ((bitOfChannel c).setWidth 16)) (.txstep c)
  | reset (ab : Pins) : Spells (opWord 0x6#4 0#4 (ab.setWidth 16)) (.reset ab)

/-- The operation's word has the operation's format. -/
theorem spells_encode (i : Instr) : Spells (encode i) i := by
  cases i with
  | rdStatus | rdTempo | rdApply | rdPeriod | rdSubpulse | rdAcc | rdMidiPend | rdDir | rdTx0Data | rdTx1Data
  | rdTx0Last | rdTx1Last | rdLines | rdUnmappedD | rdUnmappedE | rdUnmappedF => exact .rd _
  | wrStatus d | wrTempo d | wrApply d | wrPeriod d | wrSubpulse d | wrAcc d | wrMidiPend d | wrDir d | wrTx0Data d
  | wrTx1Data d | wrTx0Last d | wrTx1Last d | wrLines d | wrUnmappedD d | wrUnmappedE d | wrUnmappedF d =>
    exact .wr _ d
  | tick => exact .tick
  | pins cur => exact .pins cur
  | txstep c => exact .txstep c
  | reset ab => exact .reset ab

/-- The encoder gives an operation no other word than the one that spells it. -/
theorem Spells.encode_eq {w : OpWord} {i : Instr} (h : Spells w i) : encode i = w := by
  cases h with
  | rd a => exact encode_rdInstr a
  | wr a d => exact encode_wrInstr a d
  | tick | pins | txstep | reset => rfl

/-- The decoder reads the operation that the word spells. -/
theorem Spells.decode_eq {w : OpWord} {i : Instr} (h : Spells w i) : decode w = .operation i := by
  cases h with
  | rd a => exact decode_rdWord a 0#16
  | wr a d => exact decode_wrWord a d
  | tick => exact decode_tickWord 0#4 0#16
  | pins cur => revert cur; decide
  | txstep c => cases c <;> decide
  | reset ab => revert ab; decide

/-! ### The conditions of R88 -/

/-- One of the six conditions of 30_encoding.md R88 holds of the numbers KIND, ADDR and DATA. -/
def BreaksFormat (kind addr data : Nat) : Prop :=
  (kind = 0 ∨ 7 ≤ kind) ∨ (kind = 1 ∧ data ≠ 0) ∨ (3 ≤ kind ∧ kind ≤ 6 ∧ addr ≠ 0) ∨ (kind = 3 ∧ data ≠ 0)
    ∨ ((kind = 4 ∨ kind = 6) ∧ 4 ≤ data) ∨ (kind = 5 ∧ 2 ≤ data)

theorem toNat_kindOf (w : OpWord) : (kindOf w).toNat = w.toNat / 2 ^ 20 := by
  have := w.isLt
  simp [kindOf, Nat.shiftRight_eq_div_pow]
  omega

theorem toNat_addrOf (w : OpWord) : (addrOf w).toNat = w.toNat / 2 ^ 16 % 16 := by
  simp [addrOf, Nat.shiftRight_eq_div_pow]

theorem toNat_dataOf (w : OpWord) : (dataOf w).toNat = w.toNat % 2 ^ 16 := by
  simp [dataOf]

/-- A KIND is reserved or that of one of the six formats. -/
theorem kind_cases (k : BitVec 4) : (k = 0#4 ∨ 7 ≤ k.toNat) ∨ k = 0x1#4 ∨ k = 0x2#4 ∨ k = 0x3#4 ∨ k = 0x4#4
    ∨ k = 0x5#4 ∨ k = 0x6#4 := by
  revert k; decide

/-- Data below 2^n is its low n bits. -/
theorem setWidth_low_of_lt {n : Nat} {d : Word} (h : d.toNat < 2 ^ n) : (d.extractLsb' 0 n).setWidth 16 = d := by
  apply BitVec.eq_of_toNat_eq
  simp [Nat.mod_eq_of_lt h, d.isLt]

/-- Data below 4 is a pin pair's (R85, R87). -/
theorem exists_pins_of_lt {d : Word} (h : d.toNat < 4) : ∃ cur : Pins, d = cur.setWidth 16 :=
  ⟨_, (setWidth_low_of_lt (n := 2) h).symm⟩

/-- Data below 2 is a channel's (R86). -/
theorem exists_channel_of_lt {d : Word} (h : d.toNat < 2) : ∃ c : ChannelId, d = (bitOfChannel c).setWidth 16 := by
  have hbit : ∀ b : BitVec 1, bitOfChannel (channelOfBit b) = b := by decide
  exact ⟨channelOfBit (d.extractLsb' 0 1), by rw [hbit, setWidth_low_of_lt (n := 1) h]⟩

/-- An event's word with ADDR ≠ 0 is refused. -/
theorem decode_eventWord_of_addr {k : BitVec 4} (hk : k = 0x3#4 ∨ k = 0x4#4 ∨ k = 0x5#4 ∨ k = 0x6#4) {a : RegAddr}
    (ha : a ≠ 0#4) (d : Word) : decode (opWord k a d) = .refused .eventAddrNotZero := by
  rcases hk with rfl | rfl | rfl | rfl
  · rw [decode_tickWord, if_pos ha]
  · rw [decode_pinsWord, if_pos ha]
  · rw [decode_txstepWord, if_pos ha]
  · rw [decode_resetWord, if_pos ha]

/-- A word either spells an operation and meets no condition of R88, or meets one and is refused. -/
theorem spells_or_refused_fields (k : BitVec 4) (a : RegAddr) (d : Word) :
    (∃ i, Spells (opWord k a d) i ∧ ¬ BreaksFormat k.toNat a.toNat d.toNat)
      ∨ ∃ why, decode (opWord k a d) = .refused why ∧ BreaksFormat k.toNat a.toNat d.toNat := by
  have h0 : ¬ 0#4 ≠ 0#4 := by decide
  rcases kind_cases k with hk | rfl | rfl | hk
  · exact .inr ⟨_, decode_reservedWord k a d hk, by unfold BreaksFormat; bv_omega⟩
  · by_cases hd : d = 0#16
    · subst hd
      exact .inl ⟨_, .rd a, by simp [BreaksFormat]⟩
    · exact .inr ⟨_, by rw [decode_rdWord, if_neg hd], by simpa [BreaksFormat] using BitVec.toNat_ne_iff_ne.2 hd⟩
  · exact .inl ⟨_, .wr a d, by simp [BreaksFormat]⟩
  by_cases ha : a = 0#4
  · subst ha
    rcases hk with rfl | rfl | rfl | rfl
    · by_cases hd : d = 0#16
      · subst hd
        exact .inl ⟨_, .tick, by simp [BreaksFormat]⟩
      · exact .inr ⟨_, by rw [decode_tickWord, if_neg h0, if_pos hd],
          by simpa [BreaksFormat] using BitVec.toNat_ne_iff_ne.2 hd⟩
    · by_cases hd : d.toNat < 4
      · obtain ⟨cur, rfl⟩ := exists_pins_of_lt hd
        exact .inl ⟨_, .pins cur, by simpa [BreaksFormat] using hd⟩
      · exact .inr ⟨_, by rw [decode_pinsWord, if_neg h0, if_pos (mt (high14_eq_zero_iff d).1 hd)],
          by simpa [BreaksFormat] using hd⟩
    · by_cases hd : d.toNat < 2
      · obtain ⟨c, rfl⟩ := exists_channel_of_lt hd
        exact .inl ⟨_, .txstep c, by simpa [BreaksFormat] using hd⟩
      · exact .inr ⟨_, by rw [decode_txstepWord, if_neg h0, if_pos (mt (high15_eq_zero_iff d).1 hd)],
          by simpa [BreaksFormat] using Nat.le_of_not_lt hd⟩
    · by_cases hd : d.toNat < 4
      · obtain ⟨ab, rfl⟩ := exists_pins_of_lt hd
        exact .inl ⟨_, .reset ab, by simpa [BreaksFormat] using hd⟩
      · exact .inr ⟨_, by rw [decode_resetWord, if_neg h0, if_pos (mt (high14_eq_zero_iff d).1 hd)],
          by simpa [BreaksFormat] using hd⟩
  · exact .inr ⟨_, decode_eventWord_of_addr hk ha d, by unfold BreaksFormat; bv_omega⟩

/-- Every word either spells an operation and meets no condition of R88, or meets one and is refused. -/
theorem spells_or_refused (w : OpWord) :
    (∃ i, Spells w i ∧ ¬ BreaksFormat (kindOf w).toNat (addrOf w).toNat (dataOf w).toNat)
      ∨ ∃ why, decode w = .refused why ∧ BreaksFormat (kindOf w).toNat (addrOf w).toNat (dataOf w).toNat := by
  have h := spells_or_refused_fields (kindOf w) (addrOf w) (dataOf w)
  rwa [opWord_fields] at h

/-- A word that decodes to an operation spells it. -/
theorem spells_of_decode {w : OpWord} {i : Instr} (h : decode w = .operation i) : Spells w i := by
  obtain ⟨j, hj, -⟩ | ⟨why, hwhy, -⟩ := spells_or_refused w
  · cases hj.decode_eq.symm.trans h
    exact hj
  · cases hwhy.symm.trans h

/-- Settles O2: the operation's word has the operation's format, and the decoder reads the formats. -/
theorem decodeOfEncodeIsTheOperation : Obligations.DecodeOfEncodeIsTheOperation :=
  fun i => (spells_encode i).decode_eq

/-- Settles O3: a word that decodes to an operation has that operation's format, and the encoder writes the formats. -/
theorem encodeOfDecodedIsTheWord : Obligations.EncodeOfDecodedIsTheWord :=
  fun _ _ h => (spells_of_decode h).encode_eq

/-! ### Refused words -/

/-- A word is refused exactly when one of the conditions of R88 holds of its fields. -/
theorem refused_iff_breaksFormat (w : OpWord) :
    (∃ why, decode w = .refused why) ↔ BreaksFormat (kindOf w).toNat (addrOf w).toNat (dataOf w).toNat := by
  obtain ⟨i, hi, hform⟩ | ⟨why, hwhy, hform⟩ := spells_or_refused w
  · simp [hi.decode_eq, hform]
  · simp [hwhy, hform]

/-- A refused word has no step. -/
theorem runWord_of_refused {w : OpWord} {why : RefusedWord} (h : decode w = .refused why) (s : State) :
    runWord w s = .refused (.notAnOperation why w) := by
  simp [runWord, h]

/-- Every word of a run that has a final state spells an operation. -/
theorem decode_of_runWords_next {ws : List OpWord} {s t : State} (h : runWords ws s = .next t) :
    ∀ w ∈ ws, ∃ i, decode w = .operation i := by
  induction ws generalizing s with
  | nil => simp
  | cons v ws ih =>
    obtain ⟨i, u, hd, -, hrest⟩ := runWords_cons_next h
    exact List.forall_mem_cons.2 ⟨⟨i, hd⟩, ih hrest⟩

/-- Settles O4: the conditions are `refused_iff_breaksFormat` with the fields as numbers, and every word of a run that
has a final state spells an operation. -/
theorem refusedWordsAreThoseOfTheList : Obligations.RefusedWordsAreThoseOfTheList := by
  intro w kind addr data hkind haddr hdata
  rw [← toNat_kindOf] at hkind
  rw [← toNat_addrOf] at haddr
  rw [← toNat_dataOf] at hdata
  subst hkind haddr hdata
  refine (refused_iff_breaksFormat w).symm.trans (exists_congr fun why => ⟨fun hwhy => ?_, And.left⟩)
  refine ⟨hwhy, runWord_of_refused hwhy, fun ws s t hw hrun => ?_⟩
  obtain ⟨i, hi⟩ := decode_of_runWords_next hrun w hw
  cases hwhy.symm.trans hi

/-! ### The opcode table -/

/-- The table's row for the operations of i's mnemonic: KIND and ADDR are fixed, and the DATA bits of m are those of
i's word. -/
def formatRow (i : Instr) (m : Word) : OpcodeRow := ⟨mnemonic i, encode i, opWord 0xF#4 0xF#4 m⟩

/-- The sixteen register addresses. -/
def addresses : List RegAddr := (List.range 16).map (BitVec.ofNat 4)

theorem mem_addresses (a : RegAddr) : a ∈ addresses := by
  revert a; decide

theorem rdRows_eq : rdRows = addresses.map fun a => formatRow (rdInstr a) 0xFFFF#16 := rfl

theorem wrRows_eq : wrRows = addresses.map fun a => formatRow (wrInstr a 0#16) 0#16 := rfl

theorem eventRows_eq : eventRows = [formatRow .tick 0xFFFF#16, formatRow (.pins 0#2) 0xFFFC#16,
    formatRow (.txstep .display) 0xFFFE#16, formatRow (.reset 0#2) 0xFFFC#16] := rfl

/-- The rows of the table: one for each address read, one for each address written, and the four events. -/
theorem mem_opcodeTable (row : OpcodeRow) : row ∈ opcodeTable ↔
    (∃ a, row = formatRow (rdInstr a) 0xFFFF#16) ∨ (∃ a, row = formatRow (wrInstr a 0#16) 0#16)
      ∨ row = formatRow .tick 0xFFFF#16 ∨ row = formatRow (.pins 0#2) 0xFFFC#16
      ∨ row = formatRow (.txstep .display) 0xFFFE#16 ∨ row = formatRow (.reset 0#2) 0xFFFC#16 := by
  simp [opcodeTable, rdRows_eq, wrRows_eq, eventRows_eq, mem_addresses, eq_comm]

/-- The name of a WR row does not depend on the data. -/
theorem mnemonic_wrInstr (a : RegAddr) (d : Word) : mnemonic (wrInstr a d) = mnemonic (wrInstr a 0#16) := by
  unfold wrInstr
  split <;> rfl

/-- A mask of all of KIND and ADDR leaves them, and masks DATA. -/
theorem opWord_and_mask (k : BitVec 4) (a : RegAddr) (d m : Word) :
    opWord k a d &&& opWord 0xF#4 0xF#4 m = opWord k a (d &&& m) := by
  have hones : 0xF#4 = BitVec.allOnes 4 := rfl
  refine BitVec.and_append.trans (congrArg (· ++ (d &&& m)) ?_)
  rw [BitVec.and_append, hones, BitVec.and_allOnes, BitVec.and_allOnes]

/-- The words that match an operation's row: KIND and ADDR are those of the operation's word, and so is the masked
DATA. -/
theorem matches_formatRow_iff {i : Instr} {k : BitVec 4} {a : RegAddr} {p : Word} (hi : encode i = opWord k a p)
    (w : OpWord) (m : Word) :
    w &&& (formatRow i m).mask = (formatRow i m).pattern ↔ ∃ d, w = opWord k a d ∧ d &&& m = p := by
  simp only [formatRow, hi]
  constructor
  · intro h
    rw [← opWord_fields w, opWord_and_mask] at h
    have hk : kindOf w = k := by simpa using congrArg kindOf h
    have ha : addrOf w = a := by simpa using congrArg addrOf h
    exact ⟨dataOf w, by rw [← hk, ← ha, opWord_fields], by simpa using congrArg dataOf h⟩
  · rintro ⟨d, rfl, rfl⟩
    exact opWord_and_mask k a d m

/-- DATA that the mask of a RD or TICK row leaves 0 is 0. -/
theorem eq_zero_of_and_mask {d : Word} (h : d &&& 0xFFFF#16 = 0#16) : d = 0#16 :=
  (BitVec.and_allOnes (x := d)).symm.trans h

/-- DATA that the mask of a PINS or RESET row leaves 0 is a pin pair. -/
theorem exists_pins_of_and_mask {d : Word} (h : d &&& 0xFFFC#16 = 0#16) : ∃ cur : Pins, d = cur.setWidth 16 := by
  have hbits := congrArg (BitVec.extractLsb' 2 14) h
  rw [BitVec.extractLsb'_and, show (0xFFFC#16).extractLsb' 2 14 = BitVec.allOnes 14 by decide,
    BitVec.and_allOnes] at hbits
  exact exists_pins_of_lt ((high14_eq_zero_iff d).1 hbits)

/-- DATA that the mask of the TXSTEP row leaves 0 is a channel's bit. -/
theorem exists_channel_of_and_mask {d : Word} (h : d &&& 0xFFFE#16 = 0#16) :
    ∃ c : ChannelId, d = (bitOfChannel c).setWidth 16 := by
  have hbits := congrArg (BitVec.extractLsb' 1 15) h
  rw [BitVec.extractLsb'_and, show (0xFFFE#16).extractLsb' 1 15 = BitVec.allOnes 15 by decide,
    BitVec.and_allOnes] at hbits
  exact exists_channel_of_lt ((high15_eq_zero_iff d).1 hbits)

/-- A word that matches a row of the table spells an operation of the row's mnemonic. -/
theorem spells_of_matches {row : OpcodeRow} (hrow : row ∈ opcodeTable) {w : OpWord}
    (hw : w &&& row.mask = row.pattern) : ∃ i, Spells w i ∧ mnemonic i = row.name := by
  obtain ⟨a, rfl⟩ | ⟨a, rfl⟩ | rfl | rfl | rfl | rfl := (mem_opcodeTable row).1 hrow
  · obtain ⟨d, rfl, hd⟩ := (matches_formatRow_iff (encode_rdInstr a) w _).1 hw
    cases eq_zero_of_and_mask hd
    exact ⟨_, .rd a, rfl⟩
  · obtain ⟨d, rfl, -⟩ := (matches_formatRow_iff (encode_wrInstr a 0#16) w _).1 hw
    exact ⟨_, .wr a d, mnemonic_wrInstr a d⟩
  · obtain ⟨d, rfl, hd⟩ := (matches_formatRow_iff rfl w _).1 hw
    cases eq_zero_of_and_mask hd
    exact ⟨_, .tick, rfl⟩
  · obtain ⟨d, rfl, hd⟩ := (matches_formatRow_iff rfl w _).1 hw
    obtain ⟨cur, rfl⟩ := exists_pins_of_and_mask hd
    exact ⟨_, .pins cur, rfl⟩
  · obtain ⟨d, rfl, hd⟩ := (matches_formatRow_iff rfl w _).1 hw
    obtain ⟨c, rfl⟩ := exists_channel_of_and_mask hd
    exact ⟨_, .txstep c, rfl⟩
  · obtain ⟨d, rfl, hd⟩ := (matches_formatRow_iff rfl w _).1 hw
    obtain ⟨ab, rfl⟩ := exists_pins_of_and_mask hd
    exact ⟨_, .reset ab, rfl⟩

/-- A word that spells an operation matches the row of the operation's mnemonic. -/
theorem Spells.matches_row {w : OpWord} {i : Instr} (h : Spells w i) :
    ∃ row ∈ opcodeTable, w &&& row.mask = row.pattern ∧ row.name = mnemonic i := by
  simp only [mem_opcodeTable]
  cases h with
  | rd a => exact ⟨_, .inl ⟨a, rfl⟩, (matches_formatRow_iff (encode_rdInstr a) _ _).2 ⟨_, rfl, rfl⟩, rfl⟩
  | wr a d =>
    exact ⟨_, .inr (.inl ⟨a, rfl⟩), (matches_formatRow_iff (encode_wrInstr a 0#16) _ _).2 ⟨d, rfl, BitVec.and_zero⟩,
      (mnemonic_wrInstr a d).symm⟩
  | tick => exact ⟨formatRow .tick 0xFFFF#16, by simp, by decide, rfl⟩
  | pins cur => exact ⟨formatRow (.pins 0#2) 0xFFFC#16, by simp, by revert cur; decide, rfl⟩
  | txstep c => exact ⟨formatRow (.txstep .display) 0xFFFE#16, by simp, by cases c <;> decide, rfl⟩
  | reset ab => exact ⟨formatRow (.reset 0#2) 0xFFFC#16, by simp, by revert ab; decide, rfl⟩

/-- Settles O5: the rows are those of the formats, and the decoder reads the formats. -/
theorem decoderFollowsTheOpcodeTable : Obligations.DecoderFollowsTheOpcodeTable := by
  refine ⟨fun row hrow w hw => ?_, fun w i h => (spells_of_decode h).matches_row⟩
  obtain ⟨i, hi, hname⟩ := spells_of_matches hrow hw
  exact ⟨i, hi.decode_eq, hname⟩

end Sys2Proof.Machine

/-! The bit-serial transmitter (40_bitserial.md): the start write (R111), the line write of each position (R112, R113),
and from them the waveform of a channel (R114), and what a whole transmission leaves in LAST (R116), does to the lines
(R118) and shows to a receiver (R120). -/

namespace Sys2Proof.Machine

/-! ### The line write of each position -/

section LineWrite

variable {ch : Channel} {j : Nat}

/-- Every POS of 10_state.md R22 is one of the schedule's (40_bitserial.md R113): the latch's fall, one of the three
writes of a bit j, or the latch's rise. -/
theorem position_cases {p : Nat} (hp : p ≤ 49) :
    p = 0 ∨ (∃ j ≤ 15, p = 1 + 3 * j) ∨ (∃ j ≤ 15, p = 2 + 3 * j) ∨ (∃ j ≤ 15, p = 3 + 3 * j) ∨ p = 49 := by
  have hp3 : p = 0 ∨ p = 49 ∨ (p - 1) / 3 ≤ 15
      ∧ (p = 1 + 3 * ((p - 1) / 3) ∨ p = 2 + 3 * ((p - 1) / 3) ∨ p = 3 + 3 * ((p - 1) / 3)) := by omega
  obtain h | h | ⟨hj, h | h | h⟩ := hp3
  · exact .inl h
  · exact .inr (.inr (.inr (.inr h)))
  · exact .inr (.inl ⟨_, hj, h⟩)
  · exact .inr (.inr (.inl ⟨_, hj, h⟩))
  · exact .inr (.inr (.inr (.inl ⟨_, hj, h⟩)))

/-- POS moves on by one within its six bits. -/
theorem toNat_pos_succ {p : BitVec 6} (hp : p.toNat ≤ 48) : (p + 1#6).toNat = p.toNat + 1 := by
  rw [BitVec.toNat_add, BitVec.toNat_ofNat]
  omega

theorem lineWrite_latchFall (hp : ch.pos.toNat = 0) : lineWrite ch = { ch with lat := false, pos := 1#6 } :=
  if_pos hp

theorem lineWrite_latchRise (hp : ch.pos.toNat = 49) :
    lineWrite ch = { ch with lat := true, last := ch.shreg, busy := false, pos := 0#6 } := by
  simp [lineWrite, hp]

/-- Between the two latch edges a line write is one write of a bit, and POS moves on. -/
theorem lineWrite_bit (h1 : 1 ≤ ch.pos.toNat) (h48 : ch.pos.toNat ≤ 48) :
    lineWrite ch = { bitWrite ch.pos.toNat ch with pos := ch.pos + 1#6 } := by
  have hpos : BitVec.ofNat 6 (ch.pos.toNat + 1) = ch.pos + 1#6 := by simp [BitVec.ofNat_add]
  rw [lineWrite, if_neg (by omega), if_pos h48, hpos]

theorem lineWrite_data (hj : j ≤ 15) (hp : ch.pos.toNat = 1 + 3 * j) :
    lineWrite ch = { ch with dat := ch.shreg.getLsbD (15 - j), pos := ch.pos + 1#6 } := by
  have hmod : (ch.pos.toNat - 1) % 3 = 0 := by omega
  have hdiv : (ch.pos.toNat - 1) / 3 = j := by omega
  rw [lineWrite_bit (by omega) (by omega)]
  simp [bitWrite, scheduledBit, hmod, hdiv]

theorem lineWrite_clkHigh (hj : j ≤ 15) (hp : ch.pos.toNat = 2 + 3 * j) :
    lineWrite ch = { ch with clk := true, pos := ch.pos + 1#6 } := by
  have hmod : (ch.pos.toNat - 1) % 3 = 1 := by omega
  rw [lineWrite_bit (by omega) (by omega)]
  simp [bitWrite, hmod]

theorem lineWrite_clkLow (hj : j ≤ 15) (hp : ch.pos.toNat = 3 + 3 * j) :
    lineWrite ch = { ch with clk := false, pos := ch.pos + 1#6 } := by
  have hmod : (ch.pos.toNat - 1) % 3 = 2 := by omega
  rw [lineWrite_bit (by omega) (by omega)]
  simp [bitWrite, hmod]

/-- Before the last line write the word stays in flight, and POS moves on by one. -/
theorem lineWrite_before_end (hbusy : ch.busy = true) (h48 : ch.pos.toNat ≤ 48) :
    (lineWrite ch).busy = true ∧ (lineWrite ch).pos.toNat = ch.pos.toNat + 1 := by
  by_cases h0 : ch.pos.toNat = 0
  · simp [lineWrite_latchFall h0, hbusy, h0]
  · simp [lineWrite_bit (by omega : 1 ≤ ch.pos.toNat) h48, hbusy, toNat_pos_succ h48]

end LineWrite

/-- Settles O46: TXSTEP on a busy channel is `lineWrite`, whose equation at each position is above. -/
theorem txstepMakesTheScheduledLineWrite : Obligations.TxstepMakesTheScheduledLineWrite := by
  intro s c ch hs hch hbusy
  subst hch
  have hexec := exec_txstep hs hbusy
  refine ⟨fun hp => ?_, fun j hj hp => ?_, fun j hj hp => ?_, fun j hj hp => ?_, fun hp => ?_,
    fun u hu hidle t ht => ?_, fun x => ⟨rfl, rfl⟩, by decide, by decide⟩
  · rw [hexec, lineWrite_latchFall hp]
  · rw [hexec, lineWrite_data hj hp]
  · rw [hexec, lineWrite_clkHigh hj hp]
  · rw [hexec, lineWrite_clkLow hj hp]
  · rw [hexec, lineWrite_latchRise hp]
  · rw [exec_txstep_idle hu hidle] at ht
    cases ht

/-! ### The start write -/

/-- Settles O45: the start write of each channel is `startWord` on an idle channel, and TX_BUSY on a busy one. -/
theorem wrTxDataStartsAWord : Obligations.WrTxDataStartsAWord := by
  refine ⟨fun s w hs hb => exec_wrTxData hs .display w hb, fun s w hs hb => exec_wrTxData hs .cv w hb,
    fun s w hs hb => ?_, fun s w hs hb => ?_, fun w => ⟨decode_wrWord 0x8#4 w, decode_wrWord 0x9#4 w⟩,
    fun c ab hl => ?_⟩
  · rw [← raiseFault_eq]
    exact exec_wrTxData_busy hs .display w hb
  · rw [← raiseFault_eq]
    exact exec_wrTxData_busy hs .cv w hb
  · have hs : Ready (State.afterReset c ab) := ⟨hl, rfl⟩
    refine ⟨_, runWords_cons (by decide) (exec_wrTxData hs .display 0x063F#16 rfl)
      <| runWords_cons (by decide) (exec_rdLines hs) rfl, rfl, rfl, rfl, ?_⟩
    exact congrArg (· :: []) (linesWord_afterReset c ab)

/-! ### The waveform -/

theorem waveformInv_idleChannel : WaveformInv idleChannel := by decide

/-- A start write keeps the waveform: on an idle channel CLK is low, and it stays low (40_bitserial.md R111). -/
theorem waveformInv_startWord {ch : Channel} (h : WaveformInv ch) (hidle : ch.busy = false) (w : Word) :
    WaveformInv (startWord w ch) := by
  obtain ⟨-, hclk, -⟩ := h
  have hlow : ch.clk = false := by simpa [hidle] using hclk
  simp [WaveformInv, startWord, hlow]

/-- CLK is low at every position but those of the clock-low writes. -/
theorem waveformInv_clk_low {ch : Channel} (h : WaveformInv ch) (hp : ch.pos.toNat = 0 ∨ ch.pos.toNat % 3 ≠ 0) :
    ch.clk = false := by
  obtain ⟨-, hclk, -⟩ := h
  refine Bool.eq_false_of_not_eq_true fun hhigh => ?_
  obtain ⟨-, h3, hmod⟩ := hclk hhigh
  omega

/-- DAT is bit j of the word, MSB first, from its data write to its clock-low write. -/
theorem waveformInv_dat {ch : Channel} (h : WaveformInv ch) (hbusy : ch.busy = true) {j : Nat}
    (hp : ch.pos.toNat = 2 + 3 * j ∨ ch.pos.toNat = 3 + 3 * j) : ch.dat = ch.shreg.getLsbD (15 - j) := by
  obtain ⟨-, -, hdat, -⟩ := h
  have hj : (ch.pos.toNat - 2) / 3 = j := by omega
  rw [hdat ⟨hbusy, by omega⟩, hj]

/-- A line write keeps the waveform on a busy channel: DAT changes only in the write before the clock-high write, and
CLK is high only from there to the clock-low write (40_bitserial.md R113). -/
theorem waveformInv_lineWrite {ch : Channel} (h : WaveformInv ch) (hbusy : ch.busy = true) :
    WaveformInv (lineWrite ch) := by
  obtain hp | ⟨j, hj, hp⟩ | ⟨j, hj, hp⟩ | ⟨j, hj, hp⟩ | hp := position_cases h.1
  · rw [lineWrite_latchFall hp]
    simp [WaveformInv, waveformInv_clk_low h (.inl hp)]
  · have hnext : (ch.pos + 1#6).toNat = 2 + 3 * j := by rw [toNat_pos_succ (by omega)]; omega
    rw [lineWrite_data hj hp]
    refine ⟨by simp only [hnext]; omega, by simp [waveformInv_clk_low h (.inr (by omega))], fun _ => ?_, fun h3 => ?_⟩
    · simp [hnext]
    · simp only [hnext] at h3
      omega
  · have hnext : (ch.pos + 1#6).toNat = 3 + 3 * j := by rw [toNat_pos_succ (by omega)]; omega
    rw [lineWrite_clkHigh hj hp]
    refine ⟨by simp only [hnext]; omega, fun _ => ⟨hbusy, by simp only [hnext]; omega⟩, fun _ => ?_, fun _ => rfl⟩
    simp only [hnext, show (3 + 3 * j - 2) / 3 = j by omega, waveformInv_dat h hbusy (.inl hp)]
  · have hnext : (ch.pos + 1#6).toNat = 4 + 3 * j := by rw [toNat_pos_succ (by omega)]; omega
    rw [lineWrite_clkLow hj hp]
    refine ⟨by simp only [hnext]; omega, by simp, fun _ => ?_, fun h3 => ?_⟩
    · simp only [hnext, show (4 + 3 * j - 2) / 3 = j by omega, waveformInv_dat h hbusy (.inr hp)]
    · simp only [hnext] at h3
      omega
  · rw [lineWrite_latchRise hp]
    simp [WaveformInv, waveformInv_clk_low h (.inr (by omega))]

/-- Replacing a channel by one that meets the waveform invariant leaves both channels meeting it. -/
theorem waveformInv_setChannel {s : State} (h : ∀ b, WaveformInv (channel s b)) (c : ChannelId) {ch : Channel}
    (hch : WaveformInv ch) (b : ChannelId) : WaveformInv (channel (setChannel c ch s) b) := by
  rw [channel_setChannel]
  split
  · exact hch
  · exact h b

/-- Every operation keeps the waveform of both channels. -/
theorem exec_keeps_waveformInv (i : Instr) (s t : State) (h : ∀ c, WaveformInv (channel s c))
    (he : exec i s = .next t) : ∀ c, WaveformInv (channel t c) := by
  obtain ⟨-, heff⟩ := exec_next he
  cases heff with
  | reset ab =>
    intro c
    cases c <;> exact waveformInv_idleChannel
  | wrTx0Data w _ _ hidle => exact waveformInv_setChannel h .display (waveformInv_startWord (h .display) hidle w)
  | wrTx1Data w _ _ hidle => exact waveformInv_setChannel h .cv (waveformInv_startWord (h .cv) hidle w)
  | txstep c _ _ hbusy => exact waveformInv_setChannel h c (waveformInv_lineWrite (h c) hbusy)
  | _ =>
    intro c
    cases c
    · simpa using h .display
    · simpa using h .cv

/-- Settles O55: a step is an operation, and every operation keeps the waveform. -/
theorem stepKeepsTheWaveform : Obligations.StepKeepsTheWaveform := by
  intro s t h0 h1 hstep
  obtain ⟨w, ws, i, -, -, he⟩ := step_next hstep
  have hs : ∀ c, WaveformInv (channel { s with input := ws } c) := fun c => by
    cases c
    · exact h0
    · exact h1
  have ht := exec_keeps_waveformInv i _ t hs he
  exact ⟨ht .display, ht .cv⟩

/-! ### The words of a transmission -/

/-- Carrying out the words of operations is carrying out the operations. -/
theorem runWords_map_encode (is : List Instr) (s : State) : runWords (is.map encode) s = runOps is s := by
  induction is generalizing s with
  | nil => rfl
  | cons i is ih =>
    have hcont : runWords (is.map encode) = runOps is := funext ih
    simp only [List.map_cons, runWords, runOps, runWord, decodeOfEncodeIsTheOperation i, hcont]

theorem ready_setChannel {s : State} (hs : Ready s) (c : ChannelId) (ch : Channel) : Ready (setChannel c ch s) := by
  cases c <;> exact hs

/-- A TXSTEP of a busy channel is `lineWrite` on it and leaves the rest. -/
theorem exec_txstep_setChannel {s : State} (hs : Ready s) (c : ChannelId) {ch : Channel} (hbusy : ch.busy = true) :
    exec (.txstep c) (setChannel c ch s) = .next (setChannel c (lineWrite ch) s) := by
  rw [exec_txstep (ready_setChannel hs c ch) (by simpa using hbusy)]
  simp

/-- From POS = 49 − n, the n + 1 TXSTEPs to the end of the word change the channel alone, and leave it idle with the
word in LAST, whatever its lines were (40_bitserial.md R112, R116). -/
theorem runOps_txsteps_to_end {s : State} (hs : Ready s) (c : ChannelId) {n : Nat} {ch : Channel}
    (hbusy : ch.busy = true) (hp : ch.pos.toNat + n = 49) :
    ∃ e : Channel, runOps (List.replicate (n + 1) (.txstep c)) (setChannel c ch s) = .next (setChannel c e s)
      ∧ e.busy = false ∧ e.pos = 0#6 ∧ e.lat = true ∧ e.last = ch.shreg ∧ e.shreg = ch.shreg := by
  induction n generalizing ch with
  | zero =>
    refine ⟨lineWrite ch, ?_, ?_⟩
    · simp [runOps, exec_txstep_setChannel hs c hbusy, andThen]
    · simp [lineWrite_latchRise (ch := ch) (by omega)]
  | succ n ih =>
    obtain ⟨hbusy', hp'⟩ := lineWrite_before_end hbusy (by omega : ch.pos.toNat ≤ 48)
    obtain ⟨e, hrun, he⟩ := ih hbusy' (by omega)
    refine ⟨e, ?_, by simpa using he⟩
    rw [List.replicate_succ, runOps, exec_txstep_setChannel hs c hbusy]
    exact hrun

/-- The words of TX c, w on an idle channel commit w and change the channel alone. -/
theorem runWords_tx {s : State} (hs : Ready s) (c : ChannelId) (w : Word) (hidle : (channel s c).busy = false) :
    ∃ e : Channel, runWords (tx c w) s = .next (setChannel c e s) ∧ e.busy = false ∧ e.last = w := by
  obtain ⟨e, hrun, hbusy, -, -, hlast, -⟩ :=
    runOps_txsteps_to_end hs c (n := 49) (ch := startWord w (channel s c)) rfl rfl
  refine ⟨e, ?_, hbusy, hlast⟩
  rw [← runWords_map_encode, List.map_replicate] at hrun
  exact runWords_cons (decodeOfEncodeIsTheOperation _) (exec_wrTxData hs c w hidle) hrun

/-- Settles O26: a read returns LAST, which the start write leaves, a reset clears and the last TXSTEP commits. -/
theorem rdTxLastReturnsLast : Obligations.RdTxLastReturnsLast := by
  refine ⟨fun s hs => exec_rdTx0Last hs, fun s hs => exec_rdTx1Last hs, by decide, by decide,
    fun s w hs hidle => ?_, fun s w hs hidle => ?_, fun c ab hl => ?_, fun s w hs hidle => ?_, fun s w hs hidle => ?_⟩
  · exact runWords_cons (decodeOfEncodeIsTheOperation _) (exec_wrTxData hs .display w hidle)
      <| runWords_cons (by decide) (exec_rdTx0Last hs) rfl
  · exact runWords_cons (decodeOfEncodeIsTheOperation _) (exec_wrTxData hs .cv w hidle)
      <| runWords_cons (by decide) (exec_rdTx1Last hs) rfl
  · have hs : Ready (State.afterReset c ab) := ⟨hl, rfl⟩
    exact runWords_cons (by decide) (exec_rdTx0Last hs) <| runWords_cons (by decide) (exec_rdTx1Last hs) rfl
  · obtain ⟨e, hrun, -, rfl⟩ := runWords_tx hs .display w hidle
    exact ⟨_, hrun, exec_rdTx0Last (ready_setChannel hs .display e)⟩
  · obtain ⟨e, hrun, -, rfl⟩ := runWords_tx hs .cv w hidle
    exact ⟨_, hrun, exec_rdTx1Last (ready_setChannel hs .cv e)⟩

/-! ### The lines of a transmission -/

/-- The low n bits of a word, the highest first: what is still to be sent when n bits are left. -/
def lowBits (w : Word) : Nat → List Bool
  | 0 => []
  | n + 1 => w.getLsbD n :: lowBits w n

theorem lowBits_sixteen (w : Word) : lowBits w 16 = bitsMsbFirst w := rfl

theorem getLast?_bitsMsbFirst (w : Word) : (bitsMsbFirst w).getLast? = some (w.getLsbD 0) := rfl

/-- The receiver's shift at a rising edge of CLK (40_bitserial.md R120). -/
def shiftIn (x : Word) (b : Bool) : Word := x <<< 1 ||| zext16 (BitVec.ofBool b)

theorem getLsbD_shiftIn (x : Word) (b : Bool) {k : Nat} (hk : k < 16) :
    (shiftIn x b).getLsbD k = if k = 0 then b else x.getLsbD (k - 1) := by
  cases k with
  | zero => simp [shiftIn, zext16]
  | succ k =>
    have hk' : k < 16 := by omega
    simp [shiftIn, zext16, hk, hk']

/-- Shifting in the low n bits of w puts them below the bits that were there. -/
theorem getLsbD_foldl_shiftIn (w x : Word) (n : Nat) {k : Nat} (hk : k < 16) :
    ((lowBits w n).foldl shiftIn x).getLsbD k = if k < n then w.getLsbD k else x.getLsbD (k - n) := by
  induction n generalizing x with
  | zero => simp [lowBits]
  | succ n ih =>
    rw [lowBits, List.foldl_cons, ih]
    obtain hlt | rfl | hgt := Nat.lt_trichotomy k n
    · simp [hlt, Nat.lt_succ_of_lt hlt]
    · rw [if_neg (by omega), if_pos (by omega), Nat.sub_self, getLsbD_shiftIn x _ (by decide), if_pos rfl]
    · rw [if_neg (by omega), if_neg (by omega), getLsbD_shiftIn x _ (by omega), if_neg (by omega)]
      congr 1

/-- After 16 shifts the receiver holds the word, whatever it held. -/
theorem foldl_shiftIn_bitsMsbFirst (w x : Word) : (bitsMsbFirst w).foldl shiftIn x = w := by
  rw [← lowBits_sixteen]
  refine BitVec.eq_of_getLsbD_eq fun k hk => ?_
  rw [getLsbD_foldl_shiftIn w x 16 hk, if_pos hk]

section Watch

variable {s : State} {ch : Channel} {n : Nat}

/-- A watched TXSTEP of a busy channel shows the observer and the receiver the channel's line write. -/
theorem watchSteps_succ (hs : Ready s) (c : ChannelId) (hbusy : ch.busy = true) (l : LineLog) (r : Receiver) :
    watchSteps c (n + 1) (setChannel c ch s) l r
      = watchSteps c n (setChannel c (lineWrite ch) s) (observe ch (lineWrite ch) l) (receive ch (lineWrite ch) r) := by
  simp [watchSteps, exec_txstep_setChannel hs c hbusy]

/-- The three line writes of a bit: at most one change of the data line, one clock pulse, and the bit seen by the
observer and shifted into the receiver (40_bitserial.md R113, R118). -/
theorem watchSteps_bit (hs : Ready s) (c : ChannelId) {b : Nat} (hb : b ≤ 15) (hbusy : ch.busy = true)
    (hp : ch.pos.toNat + 3 * b = 46) (hclk : ch.clk = false) (hlat : ch.lat = false) (l : LineLog) (r : Receiver) :
    watchSteps c (n + 3) (setChannel c ch s) l r
      = watchSteps c n (setChannel c { ch with dat := ch.shreg.getLsbD b, pos := ch.pos + 3#6 } s)
          { l with clkRises := l.clkRises + 1, clkFalls := l.clkFalls + 1,
                   datEdges := l.datEdges + if ch.dat = ch.shreg.getLsbD b then 0 else 1,
                   bits := l.bits ++ [ch.shreg.getLsbD b] }
          { r with rx := shiftIn r.rx (ch.shreg.getLsbD b) } := by
  have h1 : (ch.pos + 1#6).toNat = ch.pos.toNat + 1 := toNat_pos_succ (by omega)
  have h2 : (ch.pos + 1#6 + 1#6).toNat = ch.pos.toNat + 2 := by rw [toNat_pos_succ (by omega), h1]
  have hbit : 15 - (15 - b) = b := by omega
  rw [watchSteps_succ hs c hbusy, lineWrite_data (j := 15 - b) (by omega) (by omega), hbit,
    watchSteps_succ hs c (by exact hbusy), lineWrite_clkHigh (j := 15 - b) (by omega) (by simp only [h1]; omega),
    watchSteps_succ hs c (by exact hbusy), lineWrite_clkLow (j := 15 - b) (by omega) (by simp only [h2]; omega)]
  simp [observe, receive, shiftIn, BitVec.add_assoc, add_ite, hclk, hlat]

/-- The channel once the low n bits and the latch's rise are sent: idle, with the word in LAST. -/
def sentChannel (ch : Channel) (n : Nat) : Channel where
  busy  := false
  pos   := 0#6
  shreg := ch.shreg
  last  := ch.shreg
  clk   := false
  dat   := (lowBits ch.shreg n).getLastD ch.dat
  lat   := true

/-- What the observer has seen once the low n bits and the latch's rise are sent. -/
def sentLog (ch : Channel) (n : Nat) (l : LineLog) : LineLog where
  clkRises := l.clkRises + n
  clkFalls := l.clkFalls + n
  latRises := l.latRises + 1
  latFalls := l.latFalls
  datEdges := l.datEdges + levelChanges ch.dat (lowBits ch.shreg n)
  bits     := l.bits ++ lowBits ch.shreg n

/-- What the receiver holds once the low n bits and the latch's rise are sent. -/
def sentReceiver (ch : Channel) (n : Nat) (r : Receiver) : Receiver where
  rx  := (lowBits ch.shreg n).foldl shiftIn r.rx
  out := (lowBits ch.shreg n).foldl shiftIn r.rx

/-- From the data write of bit n − 1 on, the TXSTEPs to the end of the word send the low n bits and raise the latch. -/
theorem watchSteps_bits (hs : Ready s) (c : ChannelId) (hn : n ≤ 16) (hbusy : ch.busy = true)
    (hp : ch.pos.toNat + 3 * n = 49) (hclk : ch.clk = false) (hlat : ch.lat = false) (l : LineLog) (r : Receiver) :
    watchSteps c (3 * n + 1) (setChannel c ch s) l r
      = some (setChannel c (sentChannel ch n) s, sentLog ch n l, sentReceiver ch n r) := by
  induction n generalizing ch l r with
  | zero =>
    rw [watchSteps_succ hs c hbusy, lineWrite_latchRise (by omega)]
    simp [watchSteps, observe, receive, sentChannel, sentLog, sentReceiver, lowBits, levelChanges, hclk, hlat]
  | succ n ih =>
    have hpos : (ch.pos + 3#6).toNat = ch.pos.toNat + 3 := by rw [BitVec.toNat_add, BitVec.toNat_ofNat]; omega
    rw [show 3 * (n + 1) + 1 = 3 * n + 1 + 3 by omega,
      watchSteps_bit hs c (b := n) (by omega) hbusy (by omega) hclk hlat,
      ih (by omega) (by exact hbusy) (by simp only [hpos]; omega) (by exact hclk) (by exact hlat)]
    simp [sentChannel, sentLog, sentReceiver, lowBits, levelChanges, Nat.add_assoc, Nat.add_comm 1, List.getLast?_cons]

/-- The 50 watched TXSTEPs of a word started on a channel with CLK low: the latch's fall, 16 bits and the latch's rise. -/
theorem watchSteps_transmission (hs : Ready s) (c : ChannelId) (w : Word) (hclk : ch.clk = false) (l : LineLog)
    (r : Receiver) :
    watchSteps c 50 (setChannel c (startWord w ch) s) l r
      = some (setChannel c { busy := false, pos := 0#6, shreg := w, last := w, clk := false, dat := w.getLsbD 0,
                             lat := true } s,
          { clkRises := l.clkRises + 16, clkFalls := l.clkFalls + 16, latRises := l.latRises + 1,
            latFalls := if ch.lat = true then l.latFalls + 1 else l.latFalls,
            datEdges := l.datEdges + levelChanges ch.dat (bitsMsbFirst w), bits := l.bits ++ bitsMsbFirst w },
          { rx := w, out := w }) := by
  rw [watchSteps_succ hs c rfl, lineWrite_latchFall rfl]
  refine (watchSteps_bits (ch := { startWord w ch with lat := false, pos := 1#6 }) hs c (n := 16) (by decide) rfl rfl
    hclk rfl _ _).trans ?_
  simp [sentChannel, sentLog, sentReceiver, startWord, observe, receive, lowBits_sixteen, getLast?_bitsMsbFirst,
    foldl_shiftIn_bitsMsbFirst, hclk]

end Watch

/-- Settles O47: the observer's log of the 50 line writes, from the start write on. -/
theorem oneTransmissionMakesExactlyItsLineChanges : Obligations.OneTransmissionMakesExactlyItsLineChanges := by
  intro s t c w r hs hidle hclk hlat hstart
  rw [exec_wrTxData hs c w hidle] at hstart
  cases hstart
  refine ⟨_, _, _, watchSteps_transmission hs c w hclk LineLog.empty r, ?_, ?_, ?_⟩
  · simp [LineLog.empty, hlat]
  · simp [startWord]
  · simp

/-- Settles O48: 16 shifts put the word into the receiver, and the latch's rise copies it. -/
theorem theReceiverHoldsTheTransmittedWord : Obligations.TheReceiverHoldsTheTransmittedWord := by
  intro s t c w l r hs hidle hclk hstart
  rw [exec_wrTxData hs c w hidle] at hstart
  cases hstart
  exact ⟨_, _, _, watchSteps_transmission hs c w hclk l r, rfl⟩

end Sys2Proof.Machine

/-! The quadrature encoder decoder (41_decoder.md): what one pin event does in each of the cases of R142 to R145, the
runs of several of them (R147), and the read that takes the direction (R146). -/

namespace Sys2Proof.Machine

/-! ### One pin event, case by case -/

section PinChange

variable {s : State} {cur : Pins}

/-- Pins whose transition mask is not 00 differ (41_decoder.md R140). -/
theorem ne_of_xor_eq {p q m : Pins} (h : p ^^^ q = m) (hm : m ≠ 0b00#2) : p ≠ q :=
  fun heq => hm (h.symm.trans (BitVec.xor_eq_zero_iff.2 heq))

/-- An event without a change does nothing (41_decoder.md R145). -/
theorem pinChange_same (s : State) : pinChange s.decPrev s = s := by
  simp [pinChange, transitionMask]

/-- A change in IDLE starts the tracking state of its mask (41_decoder.md R142). -/
theorem pinChange_leaveRest (hne : cur ≠ s.decPrev) (hidle : s.decTrack = .idle) :
    pinChange cur s = { s with decPrev := cur, decTrack := leaveRest (cur ^^^ s.decPrev) } := by
  simp [pinChange, transitionMask, hne, hidle]

/-- Leaving rest starts a tracking state, and not one whose other bit is the one that changed (41_decoder.md R142). -/
theorem leaveRest_spec (m : Pins) : leaveRest m ≠ .idle
    ∧ ¬ (leaveRest m = .trackL ∧ m = 0b01#2) ∧ ¬ (leaveRest m = .trackR ∧ m = 0b10#2) := by
  revert m; decide

/-- A change in IDLE at rest, where the pins are the mask (41_decoder.md R142). -/
theorem pinChange_fromRest (hcur : cur ≠ 0b00#2) (hidle : s.decTrack = .idle) (hprev : s.decPrev = 0b00#2) :
    pinChange cur s = { s with decPrev := cur, decTrack := leaveRest cur } := by
  rw [pinChange_leaveRest (by rwa [hprev]) hidle, hprev, BitVec.xor_zero]

/-- A change away from rest keeps the tracking state, unless both bits changed (41_decoder.md R143, R145). -/
theorem pinChange_awayFromRest (hne : cur ≠ s.decPrev) (htrack : s.decTrack ≠ .idle) (hcur : cur ≠ 0b00#2) :
    pinChange cur s = { s with decPrev := cur, decTrack := abortOnTwoBits (cur ^^^ s.decPrev) s.decTrack } := by
  simp [pinChange, transitionMask, hne, htrack, hcur]

/-- DIR after a return to rest from the pins p: two bits at once commit nothing, so the abort of R143 needs no case of
its own (41_decoder.md R144). -/
theorem commit_abortOnTwoBits (t : Track) (p : Pins) (d : Direction) :
    commit (abortOnTwoBits p t) p d
      = if t = .trackL ∧ p = 0b01#2 then .left else if t = .trackR ∧ p = 0b10#2 then .right else d := by
  by_cases hp : p = 0b11#2 <;> simp [commit, abortOnTwoBits, hp]

/-- A return to rest goes IDLE, and commits if the tracked rotation's other bit fell last (41_decoder.md R144). -/
theorem pinChange_returnToRest (hprev : s.decPrev ≠ 0b00#2) (htrack : s.decTrack ≠ .idle) :
    pinChange 0b00#2 s = { s with
      decPrev := 0b00#2, decTrack := .idle,
      dir := if s.decTrack = .trackL ∧ s.decPrev = 0b01#2 then .left
        else if s.decTrack = .trackR ∧ s.decPrev = 0b10#2 then .right else s.dir } := by
  rw [← commit_abortOnTwoBits]
  simp [pinChange, transitionMask, hprev, htrack]

end PinChange

/-- Settles O37: the pseudocode's branches are the four cases of a pin event. -/
theorem pinsFollowsItsPseudocode : Obligations.PinsFollowsItsPseudocode := by
  refine ⟨fun s cur hs => ?_, by decide⟩
  rw [exec_pins hs]
  congr 1
  split
  · rename_i hsame
    subst hsame
    exact pinChange_same s
  · rename_i hne
    split
    · exact pinChange_leaveRest hne ‹_›
    · rename_i htrack
      split
      · rename_i hrest
        subst hrest
        exact pinChange_returnToRest (Ne.symm hne) htrack
      · exact pinChange_awayFromRest hne htrack ‹_›

/-- Settles O39: the mask 11 gives TRACK_X in both cases that stay away from rest, and no return to rest commits with
it or from TRACK_X. -/
theorem aTwoBitChangeAborts : Obligations.ATwoBitChangeAborts := by
  refine ⟨fun s cur hs hmask hstay => ?_, fun s cur hs hmask htrack hrest => ?_, fun s cur hs htrack hprev => ?_⟩
  · have hne := ne_of_xor_eq hmask (by decide)
    rw [exec_pins hs]
    by_cases hidle : s.decTrack = .idle
    · rw [pinChange_leaveRest hne hidle, hmask]
      rfl
    · rw [pinChange_awayFromRest hne hidle (hstay.resolve_left hidle), hmask]
      rfl
  · subst hrest
    have hprev : s.decPrev = 0b11#2 := by simpa using hmask
    rw [exec_pins hs, pinChange_returnToRest (by simp [hprev]) htrack]
    simp [hprev]
  · have hnotIdle : s.decTrack ≠ .idle := by simp [htrack]
    rw [exec_pins hs]
    by_cases hrest : cur = 0b00#2
    · subst hrest
      rw [pinChange_returnToRest hprev hnotIdle]
      simp [htrack]
    · rw [if_neg hrest, ← htrack]
      by_cases hsame : cur = s.decPrev
      · subst hsame
        rw [pinChange_same]
      · rw [pinChange_awayFromRest hsame hnotIdle hrest]
        simp [abortOnTwoBits, htrack]

/-- Settles O42: DIR after the return to rest is the conditional of R144, whose three branches are the outcomes. -/
theorem returnToRestCommitsOrLeavesDir : Obligations.ReturnToRestCommitsOrLeavesDir := by
  intro s hs htrack hprev
  refine ⟨_, exec_pins hs _, ?_⟩
  rw [pinChange_returnToRest hprev htrack]
  refine ⟨rfl, ?_⟩
  dsimp only
  split
  · exact .inl ⟨rfl, ‹_›⟩
  · rename_i hleft
    split
    · exact .inr (.inl ⟨rfl, ‹_›⟩)
    · exact .inr (.inr ⟨rfl, hleft, ‹_›⟩)

/-- Settles O38: three times `pinChange_fromRest`, and once the event without a change. -/
theorem leavingRestStartsTracking : Obligations.LeavingRestStartsTracking := by
  intro s hs hidle hprev
  have hleave : ∀ cur : Pins, cur ≠ 0b00#2 →
      exec (.pins cur) s = .next { s with decPrev := cur, decTrack := leaveRest cur } :=
    fun cur hcur => by rw [exec_pins hs, pinChange_fromRest hcur hidle hprev]
  have hstay : exec (.pins s.decPrev) s = .next s := by rw [exec_pins hs, pinChange_same]
  exact ⟨hleave _ (by decide), hleave _ (by decide), hleave _ (by decide), hprev ▸ hstay⟩

/-- Settles O40: an event without a change does nothing, and a mask of one bit does not abort. -/
theorem eventsThatKeepTheTrackingState : Obligations.EventsThatKeepTheTrackingState := by
  refine ⟨fun s hs => by rw [exec_pins hs, pinChange_same], fun s cur hs htrack hcur hmask => ?_⟩
  have hne : cur ≠ s.decPrev := hmask.elim (ne_of_xor_eq · (by decide)) (ne_of_xor_eq · (by decide))
  have hkeep : abortOnTwoBits (cur ^^^ s.decPrev) s.decTrack = s.decTrack := by
    obtain hmask | hmask := hmask <;> simp [abortOnTwoBits, hmask]
  rw [exec_pins hs, pinChange_awayFromRest hne htrack hcur, hkeep]

/-! ### Runs of pin events -/

/-- A run that begins with pin events is the run of its other words from the state that the events leave. -/
theorem runWords_pinEvents {s : State} (hs : Ready s) (evs : List Pins) (ws : List OpWord) :
    runWords ((pinEvents evs).map encode ++ ws) s = runWords ws (evs.foldl (fun t cur => pinChange cur t) s) := by
  induction evs generalizing s with
  | nil => rfl
  | cons cur evs ih => exact (runWords_pins hs cur _).trans (ih (ready_pinChange hs cur))

/-- A run of pin events alone, as operations. -/
theorem runOps_pinEvents {s : State} (hs : Ready s) (evs : List Pins) :
    runOps (pinEvents evs) s = .next (evs.foldl (fun t cur => pinChange cur t) s) := by
  rw [← runWords_map_encode, ← List.append_nil ((pinEvents evs).map encode), runWords_pinEvents hs]
  rfl

section FromRest

variable {s : State} (hs : Ready s) (hidle : s.decTrack = .idle) (hprev : s.decPrev = 0b00#2)

include hs hidle hprev

/-- The words of ROTR from rest, with the decoder idle, set DIR to RIGHT and change nothing else (30_encoding.md R97,
41_decoder.md R144). -/
theorem runWords_rotR (ws : List OpWord) : runWords (rotR ++ ws) s = runWords ws { s with dir := .right } := by
  refine (runWords_pinEvents hs [0b01#2, 0b11#2, 0b10#2, 0b00#2] ws).trans ?_
  simp [pinChange_fromRest, pinChange_awayFromRest, pinChange_returnToRest, leaveRest, abortOnTwoBits, hidle, hprev]

/-- An event that leaves rest and one that undoes it commit nothing: the origin bit fell last, or both did
(41_decoder.md R144). -/
theorem runOps_leaveAndReturn {cur : Pins} (hcur : cur ≠ 0b00#2) : runOps (pinEvents [cur, 0b00#2]) s = .next s := by
  obtain ⟨htrack, hleft, hright⟩ := leaveRest_spec cur
  rw [runOps_pinEvents hs, List.foldl_cons, List.foldl_cons, List.foldl_nil, pinChange_fromRest hcur hidle hprev,
    pinChange_returnToRest hcur htrack]
  simp only [if_neg hleft, if_neg hright, ← hidle, ← hprev]

end FromRest

/-- Settles O41: each cycle is run from rest to rest, whatever DIR holds by then. -/
theorem dirHoldsTheLastCommit : Obligations.DirHoldsTheLastCommit := by
  intro s hs hidle hprev
  have hleft : ∀ ws, runWords (rotL ++ ws) s = runWords ws { s with dir := .left } := runWords_rotL hs hidle hprev
  refine ⟨hleft [], runWords_rotR hs hidle hprev [], ?_, ?_, ?_, ?_⟩
  · rw [hleft]
    exact runWords_rotL (s := { s with dir := .left }) hs hidle hprev []
  · rw [hleft]
    exact runWords_rotR (s := { s with dir := .left }) hs hidle hprev []
  · exact runOps_leaveAndReturn hs hidle hprev (by decide)
  · exact runOps_leaveAndReturn hs hidle hprev (by decide)

/-! ### Taking the direction -/

/-- Settles O25: the three codes of DIR, and ROTL followed by two reads. -/
theorem rdDirTakesTheDirection : Obligations.RdDirTakesTheDirection := by
  refine ⟨fun s hs => ?_, by decide, fun s hs hidle hprev => ?_⟩
  · rw [exec_rdDir hs]
    cases s.dir <;> rfl
  · rw [runWords_rotL hs hidle hprev]
    refine runWords_cons (by decide) (exec_rdDir hs) (runWords_cons (by decide) (exec_rdDir hs) ?_)
    simp [runWords, busReturn, zext16, dirCode]

end Sys2Proof.Machine

/-! The tempo and the period divider (42_tempo.md): what WR.APPLY does to TEMPO (R171 to R173), the two reads (R174,
R175), the divider itself (R170), and where a TICK uses TEMPO (R176, R177). -/

namespace Sys2Proof.Machine

/-! ### The new tempo -/

section Apply

variable {s : State} {d : Word}

/-- Data 0, 1 or 2 is a direction, and TEMPO goes by it as R172 says. -/
theorem applyDirection_of_le_two (hd : d.toNat ≤ 2) : ∃ dir, applyDirection d = some dir
    ∧ ∀ c t, tempoAfter c t dir
      = if d.toNat = 0 then t else if d.toNat = 1 then min (t + 1) c.tempoMax else max (t - 1) c.tempoMin := by
  have hcases : d.toNat = 0 ∨ d.toNat = 1 ∨ d.toNat = 2 := by omega
  obtain h | h | h := hcases
  · exact ⟨.none, by simp [applyDirection_eq, h], fun c t => by simp [tempoAfter, h]⟩
  · exact ⟨.left, by simp [applyDirection_eq, h], fun c t => by simp [tempoAfter, tempoStep, h]⟩
  · exact ⟨.right, by simp [applyDirection_eq, h], fun c t => by simp [tempoAfter, tempoStep, h]⟩

/-- The reserved data of 30_encoding.md R93 is no direction. -/
theorem applyDirection_reserved (hd : d.extractLsb' 2 14 ≠ 0#14 ∨ d.extractLsb' 0 2 = 0b11#2) :
    applyDirection d = none := by
  obtain hd | hd := hd
  · exact if_pos hd
  · simp [applyDirection, hd]

/-- The new tempo fits TEMPO, so the register holds it as it is. -/
theorem toNat_applyTempo (hl : legalConfig s.cfg = true) (dir : Direction) :
    (applyTempo dir s).tempo.toNat = tempoAfter s.cfg s.tempo.toNat dir := by
  rw [applyTempo_tempo, BitVec.toNat_ofNat, Nat.mod_eq_of_lt (tempoAfter_fits hl s.tempo dir)]

/-- Where the tempo stays, `apply` changes nothing. -/
theorem applyTempo_of_stays {dir : Direction} (h : tempoAfter s.cfg s.tempo.toNat dir = s.tempo.toNat) :
    applyTempo dir s = s := by
  simp [applyTempo, h]

end Apply

/-- Settles O29: data up to 2 is a direction, whose tempo fits the register; reserved data is none, and faults. -/
theorem wrApplyStepsTheTempo : Obligations.WrApplyStepsTheTempo := by
  refine ⟨fun s d hs hd => ?_, fun s d hs hd => ?_, fun d => decode_wrWord 0x2#4 d, fun s hs htempo hmax hhz => ?_⟩
  · obtain ⟨dir, hdir, hstep⟩ := applyDirection_of_le_two hd
    exact ⟨_, exec_wrApply hs hdir, (toNat_applyTempo hs.1 dir).trans (hstep _ _)⟩
  · rw [exec_wrApply_reserved hs (applyDirection_reserved hd), raiseFault_eq]
  · have happly : applyTempo .left s = { s with tempo := 121#16 } := by
      simp [applyTempo, tempoAfter, tempoStep, htempo, hmax]
    have hexec : exec (.wrApply 0x0001#16) s = .next { s with tempo := 121#16 } := by
      rw [exec_wrApply hs (dir := .left) (by decide), happly]
    refine runWords_cons (by decide) hexec (runWords_cons (by decide) (exec_rdPeriod hs) ?_)
    simp [runWords, busReturn, period, subpulsesPerBeat, hhz]

/-- Settles O30: at its bound the saturated tempo is the tempo; and a fault leaves TEMPO, while every direction keeps
it within its bounds. -/
theorem tempoSaturatesAtItsBounds : Obligations.TempoSaturatesAtItsBounds := by
  refine ⟨fun s hs hmax => ?_, fun s hs hmin => ?_, fun s t d hs hmin hmax he => ?_⟩
  · rw [exec_wrApply hs (dir := .left) (by decide), applyTempo_of_stays (by simp [tempoAfter, hmax])]
  · rw [exec_wrApply hs (dir := .right) (by decide), applyTempo_of_stays (by simp [tempoAfter, hmin])]
  · obtain ⟨hl, heff⟩ := exec_next he
    cases heff with
    | fault => simpa using ⟨hmin, hmax⟩
    | wrApply _ dir =>
      rw [toNat_applyTempo hl dir]
      exact tempoAfter_bounds hl hmin hmax dir

/-! ### Where TEMPO is used -/

section Tick

variable {s : State}

/-- With MODE = FIXED a TICK is a sub-pulse that leaves ACC (43_pulse_engine.md R204). -/
theorem timerEvent_fixed (hmode : s.cfg.mode = .fixed) : timerEvent s = afterSubpulse s s.acc := by
  rw [timerEvent_eq, if_pos hmode]

/-- With MODE = ACCUM a TICK below the threshold only counts (43_pulse_engine.md R203). -/
theorem timerEvent_belowPeriod (hmode : s.cfg.mode = .accum)
    (hbelow : s.acc.toNat + 1 < period s.cfg s.tempo.toNat) : timerEvent s = { s with acc := s.acc + 1#16 } := by
  rw [timerEvent_eq, if_neg (by simp [hmode]), if_neg (Nat.not_le.2 hbelow)]

/-- With MODE = ACCUM a TICK that reaches the threshold is a sub-pulse (43_pulse_engine.md R203). -/
theorem timerEvent_atPeriod (hmode : s.cfg.mode = .accum)
    (hreached : period s.cfg s.tempo.toNat ≤ s.acc.toNat + 1) : timerEvent s
      = afterSubpulse s (accAtThreshold s.cfg.accReset (s.acc.toNat + 1) (period s.cfg s.tempo.toNat)) := by
  rw [timerEvent_eq, if_neg (by simp [hmode]), if_pos hreached]

end Tick

@[simp] theorem afterSubpulse_midiPend (s : State) (a : Word) : (afterSubpulse s a).midiPend = s.midiPend + 1#16 := by
  simp only [afterSubpulse, apply_ite State.midiPend, ite_self]

/-- A sub-pulse does not use TEMPO. -/
theorem afterSubpulse_withTempo (s : State) (a x : Word) :
    afterSubpulse { s with tempo := x } a = { afterSubpulse s a with tempo := x } := by
  simp only [afterSubpulse, ← boundaryDiv_eq]
  split <;> rfl

/-- Settles O31: `apply` changes TEMPO alone, and both uses compute P from the live TEMPO. -/
theorem aTempoTakesEffectAtItsNextUse : Obligations.ATempoTakesEffectAtItsNextUse := by
  intro s d hs hd
  obtain ⟨dir, hdir, -⟩ := applyDirection_of_le_two hd
  have ht : Ready (applyTempo dir s) := hs
  refine ⟨applyTempo dir s, exec_wrApply hs hdir, rfl, exec_rdPeriod ht, fun hmode hbelow => ?_,
    fun hmode hreached => ?_⟩
  · rw [exec_tick ht, timerEvent_belowPeriod (s := applyTempo dir s) hmode hbelow, applyTempo_acc]
  · refine ⟨_, exec_tick ht, ?_⟩
    rw [timerEvent_atPeriod (s := applyTempo dir s) hmode hreached, afterSubpulse_midiPend,
      applyTempo_midiPend]

/-- Settles O36: with MODE = FIXED a TICK is a sub-pulse, which does not use TEMPO. -/
theorem fixedModeTicksIgnoreTempo : Obligations.FixedModeTicksIgnoreTempo := by
  intro s t x hs hfixed he
  have hs' : Ready { s with tempo := x } := hs
  rw [exec_tick hs, timerEvent_fixed hfixed] at he
  cases he
  rw [exec_tick hs', timerEvent_fixed (s := { s with tempo := x }) hfixed, afterSubpulse_withTempo]

/-! ### The reads and the divider -/

/-- Settles O20: the read returns TEMPO, which a reset sets to 120. -/
theorem rdTempoReturnsTempo : Obligations.RdTempoReturnsTempo := by
  refine ⟨fun s hs => exec_rdTempo hs, by decide, fun c ab hl => ?_⟩
  have hs : Ready (State.afterReset c ab) := ⟨hl, rfl⟩
  exact exec_rdTempo hs

/-- Settles O21: for a TEMPO within its bounds P(TEMPO) fits the 16 bits of the read data (`period_bounds`). -/
theorem rdPeriodReturnsThePeriod : Obligations.RdPeriodReturnsThePeriod := by
  refine ⟨fun s hs => exec_rdPeriod hs, fun s hs hmin hmax => ?_, by decide, fun c ab hl hhz => ?_⟩
  · obtain ⟨hone, hfits⟩ := period_bounds hs.1 hmin hmax
    have hread : (BitVec.ofNat 16 (period s.cfg s.tempo.toNat)).toNat = period s.cfg s.tempo.toNat := by
      rw [BitVec.toNat_ofNat, Nat.mod_eq_of_lt (by omega)]
    exact ⟨_, exec_rdPeriod hs, hread, by rwa [hread]⟩
  · have hs : Ready (State.afterReset c ab) := ⟨hl, rfl⟩
    rw [exec_rdPeriod hs]
    simp [busReturn, period, State.afterReset, tempoReset, subpulsesPerBeat, hhz]

/-- Settles O28: the two inequalities are those of a floor division, and the divisor does not name the boundary
policy. -/
theorem periodDividerIsOneFloorDivision : Obligations.PeriodDividerIsOneFloorDivision := by
  refine ⟨fun c t ht => ⟨Nat.div_mul_le_self _ _, ?_⟩, fun c t hl hmin hmax => period_bounds hl hmin hmax,
    fun c b t => rfl⟩
  have hpos : 0 < t * 24 := by omega
  exact (Nat.div_lt_iff_lt_mul hpos).1 (Nat.lt_succ_self _)

end Sys2Proof.Machine

/-! The pulse-counter engine (43_pulse_engine.md): one TICK (R201 to R206), a run of TICKs to the next sub-pulse and to
the next boundary (R203, R210), and the three reads (R207 to R209). -/

namespace Sys2Proof.Machine

/-! ### One TICK -/

/-- Settles O33: the three cases of a timer event. With ACC at most 65534 the excess fits its register. -/
theorem tickAdvancesThePulseEngine : Obligations.TickAdvancesThePulseEngine := by
  intro s hs
  rw [exec_tick hs]
  refine ⟨fun hmode => ?_, fun hmode hbelow => ?_, fun hmode hreached hzero => ?_,
    fun hmode hreached hsubtract hinv => ?_, by decide⟩
  · rw [timerEvent_fixed hmode]
  · rw [timerEvent_belowPeriod hmode hbelow]
  · rw [timerEvent_atPeriod hmode hreached, hzero]
    rfl
  · obtain ⟨-, -, hacc, -⟩ := hinv
    rw [timerEvent_atPeriod hmode hreached, hsubtract]
    exact ⟨_, rfl, Nat.mod_eq_of_lt ((Nat.sub_le _ _).trans_lt (by omega))⟩

section Subpulse

variable {s : State}

/-- A sub-pulse at a boundary (43_pulse_engine.md R206). -/
theorem afterSubpulse_boundary (h : s.subpulse.toNat + 1 = boundaryDiv s.cfg) (a : Word) :
    afterSubpulse s a = { s with acc := a, midiPend := s.midiPend + 1#16, subpulse := 0#16, beatInd := !s.beatInd,
                                 gate := true, phase := .atBeatBoundary } := by
  rw [afterSubpulse, ← boundaryDiv_eq, if_pos h]

/-- A sub-pulse off a boundary (43_pulse_engine.md R206). -/
theorem afterSubpulse_offBoundary (h : s.subpulse.toNat + 1 ≠ boundaryDiv s.cfg) (a : Word) :
    afterSubpulse s a = { s with acc := a, midiPend := s.midiPend + 1#16, subpulse := s.subpulse + 1#16,
                                 gate := false, phase := .withinBeat } := by
  rw [afterSubpulse, ← boundaryDiv_eq, if_neg h]

/-- A sub-pulse that leaves 0 in SUBPULSE was a boundary, unless SUBPULSE was 65535 (43_pulse_engine.md R207). -/
theorem afterSubpulse_gate {a : Word} (hlt : s.subpulse.toNat < 65535) (h0 : (afterSubpulse s a).subpulse = 0#16) :
    (afterSubpulse s a).gate = true := by
  by_cases h : s.subpulse.toNat + 1 = boundaryDiv s.cfg
  · rw [afterSubpulse_boundary h]
  · rw [afterSubpulse_offBoundary h] at h0
    have hnat := congrArg BitVec.toNat h0
    simp only [BitVec.toNat_add, BitVec.toNat_ofNat] at hnat
    omega

/-- A TICK is a sub-pulse, or leaves SUBPULSE (43_pulse_engine.md R203, R204). -/
theorem timerEvent_cases (s : State) :
    (∃ a, timerEvent s = afterSubpulse s a) ∨ (timerEvent s).subpulse = s.subpulse := by
  rw [timerEvent_eq]
  split
  · exact .inl ⟨_, rfl⟩
  · split
    · exact .inl ⟨_, rfl⟩
    · exact .inr rfl

end Subpulse

/-! ### Runs of TICKs -/

section Ticks

variable {s : State}

/-- TICKs leave the core ready and return nothing. -/
theorem timerEvent_iterate_frame (s : State) (n : Nat) :
    (timerEvent^[n] s).cfg = s.cfg ∧ (timerEvent^[n] s).resetSeen = s.resetSeen
      ∧ (timerEvent^[n] s).returned = s.returned := by
  induction n with
  | zero => exact ⟨rfl, rfl, rfl⟩
  | succ n ih => simpa [Function.iterate_succ_apply'] using ih

theorem ready_timerEvent_iterate (hs : Ready s) (n : Nat) : Ready (timerEvent^[n] s) := by
  obtain ⟨hcfg, hseen, -⟩ := timerEvent_iterate_frame s n
  rwa [Ready, hcfg, hseen]

/-- A run that begins with TICKs is the run of its other words from the state that the TICKs leave. -/
theorem runWords_tickN (hs : Ready s) (n : Nat) (ws : List OpWord) :
    runWords (tickN n ++ ws) s = runWords ws (timerEvent^[n] s) := by
  induction n generalizing s with
  | zero => rfl
  | succ n ih => exact runWords_cons (by decide) (exec_tick hs) (ih (ready_timerEvent_iterate hs 1))

/-- A run of TICKs alone, as operations. -/
theorem runOps_ticks (hs : Ready s) (n : Nat) : runOps (List.replicate n .tick) s = .next (timerEvent^[n] s) := by
  rw [← runWords_map_encode, List.map_replicate, ← List.append_nil (List.replicate n (encode .tick))]
  exact runWords_tickN hs n []

/-- With MODE = FIXED each TICK adds 1 to MIDI_PEND, at a boundary and off it (43_pulse_engine.md R204, R205). -/
theorem timerEvent_iterate_midiPend (hmode : s.cfg.mode = .fixed) (n : Nat) :
    (timerEvent^[n] s).midiPend = s.midiPend + BitVec.ofNat 16 n := by
  induction n with
  | zero => simp
  | succ n ih =>
    obtain ⟨hcfg, -⟩ := timerEvent_iterate_frame s n
    rw [Function.iterate_succ_apply', timerEvent_fixed (by rw [hcfg, hmode]), afterSubpulse_midiPend, ih,
      BitVec.ofNat_add, BitVec.add_assoc]

/-- With MODE = ACCUM, from ACC = 0, the TICKs below the threshold only count (43_pulse_engine.md R203). -/
theorem timerEvent_iterate_belowPeriod (hmode : s.cfg.mode = .accum) (hacc : s.acc = 0#16)
    (hfits : period s.cfg s.tempo.toNat ≤ 65535) {n : Nat} (hn : n < period s.cfg s.tempo.toNat) :
    timerEvent^[n] s = { s with acc := BitVec.ofNat 16 n } := by
  induction n with
  | zero => simp [← hacc]
  | succ n ih =>
    have hcount : (BitVec.ofNat 16 n).toNat = n := by
      rw [BitVec.toNat_ofNat]
      omega
    have hbelow : (BitVec.ofNat 16 n).toNat + 1 < period s.cfg s.tempo.toNat := by rwa [hcount]
    rw [Function.iterate_succ_apply', ih (by omega),
      timerEvent_belowPeriod (s := { s with acc := BitVec.ofNat 16 n }) hmode hbelow, BitVec.ofNat_add]

/-- At the exact threshold both ACC_RESETs keep 0 (43_pulse_engine.md R203). -/
theorem accAtThreshold_self (r : AccReset) (p : Nat) : accAtThreshold r p p = 0#16 := by
  cases r <;> simp [accAtThreshold]

/-- With MODE = ACCUM, from ACC = 0, the first P(TEMPO) TICKs make one sub-pulse, under either ACC_RESET
(43_pulse_engine.md R203). -/
theorem timerEvent_iterate_period (hmode : s.cfg.mode = .accum) (hacc : s.acc = 0#16)
    (hone : 1 ≤ period s.cfg s.tempo.toNat) (hfits : period s.cfg s.tempo.toNat ≤ 65535) :
    timerEvent^[period s.cfg s.tempo.toNat] s = afterSubpulse s 0#16 := by
  obtain ⟨n, hn⟩ := Nat.exists_eq_add_of_le' hone
  have hcount : (BitVec.ofNat 16 n).toNat + 1 = period s.cfg s.tempo.toNat := by
    rw [BitVec.toNat_ofNat]
    omega
  have hlast := timerEvent_atPeriod (s := { s with acc := BitVec.ofNat 16 n }) hmode hcount.ge
  rw [hcount, accAtThreshold_self] at hlast
  rw [hn, Function.iterate_succ_apply', timerEvent_iterate_belowPeriod hmode hacc hfits (by omega), hlast]
  rfl

end Ticks

/-! ### From one boundary to the next -/

/-- k TICKs make one sub-pulse: one with MODE = FIXED, P(TEMPO) with MODE = ACCUM, ACC = 0 and a legal TEMPO
(43_pulse_engine.md R210). -/
def TicksPerSubpulse (s : State) (k : Nat) : Prop :=
  s.cfg.mode = .fixed ∧ k = 1
    ∨ s.cfg.mode = .accum ∧ s.acc = 0#16 ∧ s.cfg.tempoMin ≤ s.tempo.toNat ∧ s.tempo.toNat ≤ s.cfg.tempoMax
      ∧ k = period s.cfg s.tempo.toNat

section Boundary

variable {s : State} {k : Nat}

theorem TicksPerSubpulse.timerEvent_iterate (h : TicksPerSubpulse s k) (hl : legalConfig s.cfg = true) :
    timerEvent^[k] s = afterSubpulse s s.acc := by
  obtain ⟨hmode, rfl⟩ | ⟨hmode, hacc, hmin, hmax, rfl⟩ := h
  · exact timerEvent_fixed hmode
  · obtain ⟨hone, hfits⟩ := period_bounds hl hmin hmax
    rw [timerEvent_iterate_period hmode hacc hone hfits, hacc]

/-- The state s after n sub-pulses from SUBPULSE = 0, none of them a boundary. -/
def withinBeatAfter (s : State) (n : Nat) : State :=
  { s with subpulse := BitVec.ofNat 16 n, midiPend := s.midiPend + BitVec.ofNat 16 n, gate := false,
           phase := .withinBeat }

/-- No sub-pulse before the BOUNDARY_DIV-th is a boundary (43_pulse_engine.md R210). -/
theorem TicksPerSubpulse.belowBoundary (h : TicksPerSubpulse s k) (hl : legalConfig s.cfg = true)
    (h0 : s.subpulse = 0#16) {n : Nat} (hn : 1 ≤ n) (hdiv : n < boundaryDiv s.cfg) :
    timerEvent^[n * k] s = withinBeatAfter s n := by
  obtain ⟨-, hfits⟩ := boundaryDiv_bounds hl
  induction n, hn using Nat.le_induction with
  | base =>
    have hoff : s.subpulse.toNat + 1 ≠ boundaryDiv s.cfg := by simpa [h0] using hdiv.ne
    rw [Nat.one_mul, h.timerEvent_iterate hl, afterSubpulse_offBoundary hoff, h0]
    rfl
  | succ n _ ih =>
    have hoff : (withinBeatAfter s n).subpulse.toNat + 1 ≠ boundaryDiv s.cfg := by
      simp only [withinBeatAfter, BitVec.toNat_ofNat]
      omega
    have hnext : TicksPerSubpulse (withinBeatAfter s n) k := h
    rw [Nat.succ_mul, Nat.add_comm, Function.iterate_add_apply, ih (by omega), hnext.timerEvent_iterate hl,
      afterSubpulse_offBoundary hoff]
    simp [withinBeatAfter, BitVec.ofNat_add, BitVec.add_assoc]

/-- The BOUNDARY_DIV-th sub-pulse is a boundary (43_pulse_engine.md R210). -/
theorem TicksPerSubpulse.atBoundary (h : TicksPerSubpulse s k) (hl : legalConfig s.cfg = true)
    (h0 : s.subpulse = 0#16) : timerEvent^[boundaryDiv s.cfg * k] s
      = { s with subpulse := 0#16, midiPend := s.midiPend + BitVec.ofNat 16 (boundaryDiv s.cfg),
                 beatInd := !s.beatInd, gate := true, phase := .atBeatBoundary } := by
  obtain ⟨hmin, hfits⟩ := boundaryDiv_bounds hl
  obtain ⟨n, hn⟩ : ∃ n, boundaryDiv s.cfg = n + 1 := Nat.exists_eq_add_of_le' (by omega)
  have hlast : (withinBeatAfter s n).subpulse.toNat + 1 = boundaryDiv s.cfg := by
    simp only [withinBeatAfter, BitVec.toNat_ofNat]
    omega
  have hnext : TicksPerSubpulse (withinBeatAfter s n) k := h
  rw [hn, Nat.succ_mul, Nat.add_comm, Function.iterate_add_apply, h.belowBoundary hl h0 (by omega) (by omega),
    hnext.timerEvent_iterate hl, afterSubpulse_boundary hlast]
  simp [withinBeatAfter, BitVec.ofNat_add, BitVec.add_assoc]

end Boundary

/-- Settles O35: the TICKs of n sub-pulses, below BOUNDARY_DIV and at it. -/
theorem oneBoundaryPerBoundaryDivSubpulses : Obligations.OneBoundaryPerBoundaryDivSubpulses := by
  intro s k hs h0 hticks
  have h : TicksPerSubpulse s k := hticks
  refine ⟨fun n hn hdiv => ?_, ?_⟩
  · rw [runOps_ticks hs, h.belowBoundary hs.1 h0 hn hdiv]
    rfl
  · rw [runOps_ticks hs, h.atBoundary hs.1 h0]

/-! ### The reads -/

/-- Settles O22: the invariant bounds SUBPULSE below 65535, so that a TICK which brings it to 0 is a boundary; from a
reset the boundary comes at the 24th sub-pulse or later. -/
theorem rdSubpulseReturnsSubpulse : Obligations.RdSubpulseReturnsSubpulse := by
  refine ⟨fun s hs => exec_rdSubpulse hs, fun s hs hinv => ?_, fun s t hs hinv he h0 hne => ?_, by decide,
    fun c ab hl hmode => ?_⟩
  · obtain ⟨-, hsub, -⟩ := hinv
    exact ⟨_, exec_rdSubpulse hs, hsub⟩
  · obtain ⟨-, hsub, -⟩ := hinv
    obtain ⟨-, hfits⟩ := boundaryDiv_bounds hs.1
    rw [exec_tick hs] at he
    cases he
    obtain ⟨a, hpulse⟩ | hstays := timerEvent_cases s
    · rw [hpulse] at h0 ⊢
      exact afterSubpulse_gate (by omega) h0
    · exact absurd hstays hne
  · have hs : Ready (State.afterReset c ab) := ⟨hl, rfl⟩
    have hticks : TicksPerSubpulse (State.afterReset c ab) 1 := .inl ⟨hmode, rfl⟩
    have h23 : timerEvent^[23] (State.afterReset c ab) = withinBeatAfter (State.afterReset c ab) 23 :=
      hticks.belowBoundary hl rfl (n := 23) (by decide) (boundaryDiv_bounds hl).1
    have hread := exec_rdSubpulse (ready_timerEvent_iterate hs 23)
    rw [h23] at hread
    rw [runWords_tickN hs, h23]
    exact ⟨_, runWords_cons (by decide) hread rfl, rfl, rfl⟩

/-- Settles O23: the invariant has ACC = 0 with MODE = FIXED; P(120) = 5208 at TIMER_HZ = 250000, so 5207 TICKs only
count. -/
theorem rdAccReturnsAcc : Obligations.RdAccReturnsAcc := by
  refine ⟨fun s hs => exec_rdAcc hs, fun s hs hinv hmode => ?_, by decide, fun c ab hl hmode hhz => ?_⟩
  · obtain ⟨-, -, -, -, -, -, -, -, hzero⟩ := hinv
    have hread := exec_rdAcc hs
    rwa [hzero hmode] at hread
  · have hs : Ready (State.afterReset c ab) := ⟨hl, rfl⟩
    have hperiod : period (State.afterReset c ab).cfg (State.afterReset c ab).tempo.toNat = 5208 := by
      simp [State.afterReset, period, hhz, tempoReset, subpulsesPerBeat]
    have hcount : timerEvent^[5207] (State.afterReset c ab) = { State.afterReset c ab with acc := 5207#16 } :=
      timerEvent_iterate_belowPeriod hmode rfl (by omega) (by omega)
    have hread := exec_rdAcc (ready_timerEvent_iterate hs 5207)
    rw [hcount] at hread
    rw [runWords_tickN hs, hcount]
    exact ⟨_, runWords_cons (by decide) hread rfl, rfl⟩

/-- A read right after a read: the first has cleared the count (43_pulse_engine.md R209). -/
theorem exec_rdMidiPend_again {s : State} (hs : Ready s) :
    exec .rdMidiPend (busReturn s.midiPend { s with midiPend := 0#16 })
      = .next { s with midiPend := 0#16, returned := s.returned ++ [s.midiPend, 0#16] } := by
  have hs' : Ready (busReturn s.midiPend { s with midiPend := 0#16 }) := hs
  rw [exec_rdMidiPend hs']
  simp [busReturn]

/-- Settles O24: the second read finds the 0 that the first left; from a reset 24 sub-pulses add 24 to MIDI_PEND,
whether or not the last of them is a boundary. -/
theorem rdMidiPendReadsAndClears : Obligations.RdMidiPendReadsAndClears := by
  refine ⟨fun s hs => exec_rdMidiPend hs, fun s hs => ?_, by decide, fun c ab hl hmode => ?_⟩
  · simp only [runOps, exec_rdMidiPend hs, andThen]
    exact congrArg (andThen · _) (exec_rdMidiPend_again hs)
  · have hs : Ready (State.afterReset c ab) := ⟨hl, rfl⟩
    have hs' := ready_timerEvent_iterate hs 24
    have hpend : (timerEvent^[24] (State.afterReset c ab)).midiPend = 24#16 := timerEvent_iterate_midiPend hmode 24
    obtain ⟨-, -, hreturned⟩ := timerEvent_iterate_frame (State.afterReset c ab) 24
    rw [runWords_tickN hs]
    exact ⟨_, runWords_cons (by decide) (exec_rdMidiPend hs')
      (runWords_cons (by decide) (exec_rdMidiPend_again hs') rfl), congrArg₂ (· ++ [·, 0#16]) hreturned hpend⟩

end Sys2Proof.Machine

/-! The illegal bus accesses (44_status.md R232 to R234): each list of operations is a list of addresses of one access
type, whose reads or writes the fault table gives one code. -/

namespace Sys2Proof.Machine

section IllegalAccesses

variable {s : State}

/-- After the first RESET an operation whose word has a fault in the table records it, unless a fault stands recorded,
and changes nothing else (60_exceptions.md R251, R252). -/
theorem exec_of_tableFault (hs : Ready s) {i : Instr} {code : FaultCode} (h : tableFault (encode i) s = some code) :
    exec i s = .next { s with fault := faultAfter s (some code) (encode i) } := by
  have hfault : faultOf (encode i) s = some code := by simp [faultOf, hs.2, h]
  rw [exec_of_faultOf hs.1 hfault, raiseFault_eq]

/-- Code 1 of 60_exceptions.md R250, on a read (R232). -/
theorem tableFault_rdInstr_unassigned {a : RegAddr} (ha : accessOf a = .unassigned) :
    tableFault (encode (rdInstr a)) s = some .busUnmapped := by simp [encode_rdInstr, tableFault, ha]

/-- Code 1 of 60_exceptions.md R250, on a write (R232). -/
theorem tableFault_wrInstr_unassigned {a : RegAddr} (ha : accessOf a = .unassigned) (d : Word) :
    tableFault (encode (wrInstr a d)) s = some .busUnmapped := by simp [encode_wrInstr, tableFault, ha]

/-- Code 2 of 60_exceptions.md R250 (R233). -/
theorem tableFault_wrInstr_readable {a : RegAddr} (ha : accessOf a = .ro ∨ accessOf a = .rc) (d : Word) :
    tableFault (encode (wrInstr a d)) s = some .busWriteRo := by
  obtain ha | ha := ha <;> simp [encode_wrInstr, tableFault, ha]

/-- Code 3 of 60_exceptions.md R250 (R234). -/
theorem tableFault_rdInstr_wo {a : RegAddr} (ha : accessOf a = .wo) :
    tableFault (encode (rdInstr a)) s = some .busReadWo := by simp [encode_rdInstr, tableFault, ha]

end IllegalAccesses

/-- The words of a list of operations decode to these operations. -/
theorem map_decode_of_map_encode {ws : List OpWord} {is : List Instr} (h : is.map encode = ws) :
    ws.map decode = is.map Decoded.operation := by
  rw [← h, List.map_map]
  exact List.map_congr_left fun i _ => decodeOfEncodeIsTheOperation i

/-- Settles O15: the operations are the reads and the writes of the unassigned addresses 0xD, 0xE and 0xF. -/
theorem unmappedAccessesFault : Obligations.UnmappedAccessesFault := by
  refine ⟨fun s d i hs hi => exec_of_tableFault hs ?_, fun d => map_decode_of_map_encode rfl⟩
  have hunassigned : ∀ a ∈ [0xD#4, 0xE#4, 0xF#4], accessOf a = .unassigned := by decide
  replace hi : i ∈ [0xD#4, 0xE#4, 0xF#4].map rdInstr ++ [0xD#4, 0xE#4, 0xF#4].map (wrInstr · d) := hi
  rw [List.mem_append, List.mem_map, List.mem_map] at hi
  obtain ⟨a, ha, rfl⟩ | ⟨a, ha, rfl⟩ := hi
  · exact tableFault_rdInstr_unassigned (hunassigned a ha)
  · exact tableFault_wrInstr_unassigned (hunassigned a ha) d

/-- Settles O16: the operations are the writes of the RO and the RC addresses. -/
theorem writesOfReadOnlyRegistersFault : Obligations.WritesOfReadOnlyRegistersFault := by
  refine ⟨fun s d i hs hi => exec_of_tableFault hs ?_, fun d => map_decode_of_map_encode rfl⟩
  have hreadable : ∀ a ∈ [0x0#4, 0x1#4, 0x3#4, 0x4#4, 0x5#4, 0x6#4, 0x7#4, 0xA#4, 0xB#4, 0xC#4],
      accessOf a = .ro ∨ accessOf a = .rc := by decide
  obtain ⟨a, ha, rfl⟩ : ∃ a ∈ [0x0#4, 0x1#4, 0x3#4, 0x4#4, 0x5#4, 0x6#4, 0x7#4, 0xA#4, 0xB#4, 0xC#4],
      wrInstr a d = i := List.mem_map.mp hi
  exact tableFault_wrInstr_readable (hreadable a ha) d

/-- Settles O17: the operations are the reads of the WO addresses 0x2, 0x8 and 0x9. -/
theorem readsOfWriteOnlyRegistersFault : Obligations.ReadsOfWriteOnlyRegistersFault := by
  refine ⟨fun s i hs hi => exec_of_tableFault hs ?_, map_decode_of_map_encode rfl⟩
  have hwo : ∀ a ∈ [0x2#4, 0x8#4, 0x9#4], accessOf a = .wo := by decide
  obtain ⟨a, ha, rfl⟩ : ∃ a ∈ [0x2#4, 0x8#4, 0x9#4], rdInstr a = i := List.mem_map.mp hi
  exact tableFault_rdInstr_wo (hwo a ha)

end Sys2Proof.Machine

/-! The faults and the agents (60_exceptions.md): FAULT after an operation (R250 to R254), which operations have a step
(R258), and fair runs (R259). -/

namespace Sys2Proof.Machine

/-! ### The fault of an operation -/

/-- An operation for whose word the table gives no fault leaves FAULT (60_exceptions.md R250). -/
theorem Effect.fault_eq {i : Instr} {s t : State} (h : Effect i s t) (hnone : faultOf (encode i) s = none) :
    t.fault = s.fault := by
  cases h with
  | fault _ _ code hcode => cases hnone.symm.trans hcode
  | _ => simp

/-- FAULT after an operation that has a step is what the table gives (60_exceptions.md R250, R254). -/
theorem exec_fault {i : Instr} {s t : State} (h : exec i s = .next t) :
    t.fault = faultAfter s (faultOf (encode i) s) (encode i) := by
  obtain ⟨hl, heff⟩ := exec_next h
  cases hf : faultOf (encode i) s with
  | none => rw [heff.fault_eq hf, faultAfter, Option.map_none, Option.or_none]
  | some code =>
    cases h.symm.trans (exec_of_faultOf hl hf)
    exact raiseFault_fault code (encode i) s

/-- Settles O11: FAULT is the table's, and where the table gives a code, raising it is a step. -/
theorem faultsFollowTheTable : Obligations.FaultsFollowTheTable := by
  refine ⟨fun i s t h => exec_fault h, fun i s hl hf => ?_, rfl⟩
  obtain ⟨code, hcode⟩ := Option.ne_none_iff_exists'.1 hf
  exact ⟨_, exec_of_faultOf hl hcode⟩

/-- Settles O12: raising a first fault sets FAULT alone. -/
theorem aFaultIsPrecise : Obligations.AFaultIsPrecise := by
  intro i s code hl hnone hcode
  rw [exec_of_faultOf hl hcode, raiseFault_of_none hnone]

/-! ### Operations after a fault -/

/-- A pin event does not use FAULT. -/
theorem pinChange_withFault (cur : Pins) (s : State) (f : Option FaultRecord) :
    pinChange cur { s with fault := f } = { pinChange cur s with fault := f } := by
  simp only [pinChange, apply_ite (fun t : State => { t with fault := f })]

/-- A timer event does not use FAULT. -/
theorem timerEvent_withFault (s : State) (f : Option FaultRecord) :
    timerEvent { s with fault := f } = { timerEvent s with fault := f } := by
  simp only [timerEvent_eq, afterSubpulse, apply_ite (fun t : State => { t with fault := f })]

/-- An operation that does not fault has the same effect whatever FAULT holds, and leaves it (60_exceptions.md R252). -/
theorem Effect.exec_withFault {i : Instr} {s t : State} (h : Effect i s t) (hl : legalConfig s.cfg = true)
    (hnone : faultOf (encode i) s = none) (f : Option FaultRecord) :
    exec i { s with fault := f } = .next { t with fault := f } := by
  have hready (hs : Ready s) : Ready { s with fault := f } := hs
  cases h with
  | fault _ _ code hcode => cases hnone.symm.trans hcode
  | reset ab => exact exec_reset (s := { s with fault := f }) hl ab
  | rdStatus _ hs => exact exec_rdStatus (hready hs)
  | rdTempo _ hs => exact exec_rdTempo (hready hs)
  | rdPeriod _ hs => exact exec_rdPeriod (hready hs)
  | rdSubpulse _ hs => exact exec_rdSubpulse (hready hs)
  | rdAcc _ hs => exact exec_rdAcc (hready hs)
  | rdMidiPend _ hs => exact exec_rdMidiPend (hready hs)
  | rdDir _ hs => exact exec_rdDir (hready hs)
  | rdTx0Last _ hs => exact exec_rdTx0Last (hready hs)
  | rdTx1Last _ hs => exact exec_rdTx1Last (hready hs)
  | rdLines _ hs => exact exec_rdLines (hready hs)
  | wrApply _ _ _ hs hd => exact exec_wrApply (hready hs) hd
  | wrTx0Data w _ hs hb => exact exec_wrTxData (hready hs) .display w hb
  | wrTx1Data w _ hs hb => exact exec_wrTxData (hready hs) .cv w hb
  | tick _ hs => rw [← timerEvent_withFault]; exact exec_tick (hready hs)
  | pins cur _ hs => rw [← pinChange_withFault]; exact exec_pins (hready hs) cur
  | txstep c _ hs hb =>
    cases c with
    | display => exact exec_txstep (hready hs) hb
    | cv => exact exec_txstep (hready hs) hb

/-- Settles O13: the table's fault comes after the one recorded, raising it again changes nothing, and no effect of an
operation uses FAULT. -/
theorem theFirstFaultIsKept : Obligations.TheFirstFaultIsKept := by
  refine ⟨fun i s t f h hf => ?_, fun i s f hl hf hcode => ?_, fun i s t f h hnone => ?_, fun c ws t hf hclean => ?_⟩
  · rw [exec_fault h, faultAfter, hf, Option.some_or]
  · obtain ⟨code, hcode⟩ := Option.ne_none_iff_exists'.1 hcode
    rw [exec_of_faultOf hl hcode, raiseFault_of_some hf]
  · obtain ⟨hl, heff⟩ := exec_next h
    have hno : faultOf (encode i) { s with fault := none } = none := by
      simpa [faultAfter, hnone] using exec_fault h
    exact heff.exec_withFault hl hno (some f)
  · obtain ⟨-, -, hnone, -⟩ := hclean
    exact hf hnone

/-! ### Enabled agents -/

/-- After the first RESET every bus write has a step. -/
theorem busWrite_hasStep {s : State} (hs : Ready s) (a : RegAddr) (d : Word) : ∃ t, busWrite a d s = .next t := by
  cases ha : accessOf a with
  | unassigned => exact ⟨_, exec_of_tableFault hs (tableFault_wrInstr_unassigned ha d)⟩
  | ro => exact ⟨_, exec_of_tableFault hs (tableFault_wrInstr_readable (.inl ha) d)⟩
  | rc => exact ⟨_, exec_of_tableFault hs (tableFault_wrInstr_readable (.inr ha) d)⟩
  | wo =>
    have hcases : a = 0x2#4 ∨ a = 0x8#4 ∨ a = 0x9#4 := by revert a; decide
    have hstart : ∀ c, ∃ t, exec (wrTxData c d) s = .next t := fun c => by
      cases hb : (channel s c).busy with
      | false => exact ⟨_, exec_wrTxData hs c d hb⟩
      | true => exact ⟨_, exec_wrTxData_busy hs c d hb⟩
    obtain rfl | rfl | rfl := hcases
    · cases hd : applyDirection d with
      | some dir => exact ⟨_, exec_wrApply hs hd⟩
      | none => exact ⟨_, exec_wrApply_reserved hs hd⟩
    · exact hstart .display
    · exact hstart .cv

/-- After the first RESET every operation but TXSTEP has a step (60_exceptions.md R258). -/
theorem exec_hasStep {s : State} (hs : Ready s) {i : Instr} (hi : ∀ c, i ≠ .txstep c) : ∃ t, exec i s = .next t := by
  have hspells := spells_encode i
  generalize encode i = w at hspells
  cases hspells with
  | rd a =>
    obtain ⟨t, ht, -⟩ := busRead_returns hs a
    exact ⟨t, ht⟩
  | wr a d => exact busWrite_hasStep hs a d
  | tick => exact ⟨_, exec_tick hs⟩
  | pins cur => exact ⟨_, exec_pins hs cur⟩
  | txstep c => exact absurd rfl (hi c)
  | reset ab => exact ⟨_, exec_reset hs.1 ab⟩

/-- Settles O14: only TXSTEP can be without a step, on an idle channel. -/
theorem operationsHaveAStepWhenEnabled : Obligations.OperationsHaveAStepWhenEnabled := by
  refine ⟨fun i s hs => ?_, fun ab s hl => ⟨_, exec_reset hl ab⟩, fun i s hl hr hi => ?_⟩
  · cases i with
    | txstep c =>
      cases hb : (channel s c).busy with
      | false => simp [exec_txstep_idle hs hb, agentOf, agentEnabled, hb]
      | true => exact iff_of_true ⟨_, exec_txstep hs hb⟩ hb
    | _ => exact iff_of_true (exec_hasStep hs (by simp)) rfl
  · rw [exec_before hl hr hi, raiseFault_eq]

/-! ### A run and the steps of one channel -/

/-- Different operations have different words (30_encoding.md R89). -/
theorem encode_injective : Function.Injective encode := fun i j h => by
  have hdecode := decodeOfEncodeIsTheOperation i
  rw [h, decodeOfEncodeIsTheOperation j] at hdecode
  exact (Decoded.operation.inj hdecode).symm

/-- An operation leaves the core ready: it keeps the parameters, and none clears RESET_SEEN (70_reset_and_hazards.md
R281). -/
theorem Effect.ready {i : Instr} {s t : State} (h : Effect i s t) (hs : Ready s) : Ready t := by
  obtain ⟨hl, hr⟩ := hs
  refine ⟨h.cfg_input.1 ▸ hl, ?_⟩
  cases h with
  | reset ab => rfl
  | _ => simpa using hr

/-- While a channel is busy, only its own TXSTEP and RESET change it: a start write of it faults with TX_BUSY
(40_bitserial.md R111, R119). -/
theorem exec_busyChannel {i : Instr} {c : ChannelId} {s t : State} (hs : Ready s) (hbusy : (channel s c).busy = true)
    (hreset : ∀ ab, i ≠ .reset ab) (h : exec i s = .next t) :
    channel t c = if i = .txstep c then lineWrite (channel s c) else channel s c := by
  obtain ⟨-, heff⟩ := exec_next h
  split
  · subst i
    cases h.symm.trans (exec_txstep hs hbusy)
    exact channel_setChannel_same ..
  · obtain hc | ⟨w, rfl, -⟩ | ⟨hstep, -⟩ := heff.channel_cases hreset c
    · exact hc
    · cases h.symm.trans (exec_wrTxData_busy hs c w hbusy)
      cases c <;> simp
    · contradiction

section Runs

variable {schedule : Schedule} {run : Nat → State} {c : ChannelId} {n : Nat}

/-- What one moment of a run does to a busy channel, unless it is a RESET: the line write, if the moment is a step of
the channel, and otherwise nothing. -/
theorem Follows.busyChannel (h : Follows schedule run) (hs : Ready (run n)) (hbusy : (channel (run n) c).busy = true) :
    (∃ ab, schedule n = some (encode (.reset ab)))
      ∨ Ready (run (n + 1)) ∧ channel (run (n + 1)) c
        = if TakesStep schedule c n then lineWrite (channel (run n) c) else channel (run n) c := by
  unfold TakesStep
  cases hn : schedule n with
  | none =>
    rw [h.idle hn]
    exact .inr ⟨hs, by simp⟩
  | some w =>
    obtain ⟨i, hd, he⟩ := h.word hn
    cases encodeOfDecodedIsTheWord w i hd
    by_cases hreset : ∃ ab, i = .reset ab
    · obtain ⟨ab, rfl⟩ := hreset
      exact .inl ⟨ab, rfl⟩
    · obtain ⟨-, heff⟩ := exec_next he
      refine .inr ⟨heff.ready hs, ?_⟩
      rw [exec_busyChannel hs hbusy (fun ab hi => hreset ⟨ab, hi⟩) he]
      simp [encode_injective.eq_iff]

/-- From moment n on the word x on channel c ends after exactly k of the channel's steps, with x in LAST, unless a RESET
comes after fewer (60_exceptions.md R259). -/
def WordEndsAfter (schedule : Schedule) (run : Nat → State) (c : ChannelId) (x : Word) (n k : Nat) : Prop :=
  ∃ m, ((∃ ab, schedule (n + m) = some (encode (.reset ab))) ∧ stepsTaken schedule c n m < k)
    ∨ ((channel (run (n + m)) c).busy = false ∧ (channel (run (n + m)) c).last = x ∧ stepsTaken schedule c n m = k)

/-- Going back by one moment: its step, if it is one, counts. -/
theorem WordEndsAfter.of_next {x : Word} {k : Nat} (h : WordEndsAfter schedule run c x (n + 1) k) :
    WordEndsAfter schedule run c x n (k + if TakesStep schedule c n then 1 else 0) := by
  obtain ⟨m, h⟩ := h
  refine ⟨m + 1, ?_⟩
  rw [stepsTaken_succ, show n + (m + 1) = n + 1 + m by omega]
  simpa using h

/-- In a fair run a busy channel stays as it is until its next step; the word ends one step later than it does from
that step's line write on, unless a RESET comes before. -/
theorem Follows.wordEnds_of_lineWrite (h : Follows schedule run) (hfair : Fair schedule run) {x : Word} {k : Nat}
    {ch : Channel} (hbusy : ch.busy = true)
    (hafter : ∀ m, Ready (run m) → channel (run m) c = lineWrite ch → WordEndsAfter schedule run c x m k)
    (hs : Ready (run n)) (hch : channel (run n) c = ch) : WordEndsAfter schedule run c x n (k + 1) := by
  obtain ⟨m, hm, hnext⟩ := hfair c n (hch ▸ hbusy)
  obtain ⟨d, rfl⟩ := Nat.exists_eq_add_of_le hm
  clear hm
  induction d using Nat.strong_induction_on generalizing n with
  | _ d ih =>
    obtain hreset | ⟨hs', hch'⟩ := h.busyChannel (c := c) hs (hch ▸ hbusy)
    · exact ⟨0, .inl ⟨hreset, Nat.succ_pos k⟩⟩
    by_cases hnow : TakesStep schedule c n
    · rw [if_pos hnow, hch] at hch'
      simpa only [if_pos hnow] using (hafter (n + 1) hs' hch').of_next
    · rw [if_neg hnow, hch] at hch'
      cases d with
      | zero => exact absurd hnext (by simp [hnow, hch, hbusy])
      | succ d =>
        rw [show n + (d + 1) = n + 1 + d by omega] at hnext
        simpa only [if_neg hnow] using (ih d (Nat.lt_succ_self d) hs' hch' hnext).of_next

/-- In a fair run a word at POS = 49 − k ends after exactly k + 1 steps of its channel, unless a RESET comes before
(60_exceptions.md R259). -/
theorem Follows.wordEnds_of_fair (h : Follows schedule run) (hfair : Fair schedule run) {k : Nat} {ch : Channel}
    (hbusy : ch.busy = true) (hp : ch.pos.toNat + k = 49) (hs : Ready (run n)) (hch : channel (run n) c = ch) :
    WordEndsAfter schedule run c ch.shreg n (k + 1) := by
  induction k generalizing n ch with
  | zero =>
    refine h.wordEnds_of_lineWrite hfair hbusy (fun m _ hend => ⟨0, .inr ?_⟩) hs hch
    simp [hend, lineWrite_latchRise hp]
  | succ k ih =>
    obtain ⟨hbusy', hp'⟩ := lineWrite_before_end hbusy (by omega : ch.pos.toNat ≤ 48)
    refine h.wordEnds_of_lineWrite hfair hbusy (fun m hs' hch' => ?_) hs hch
    rw [← lineWrite_shreg ch]
    exact ih hbusy' (by omega) hs' hch'

end Runs

/-! ### Finite runs -/

/-- The words of a finite sequence as a schedule are those of the sequence. -/
theorem wordsBefore_scheduleOf (ws : List OpWord) : wordsBefore (scheduleOf ws) ws.length = ws := by
  unfold wordsBefore scheduleOf
  induction ws with
  | nil => rfl
  | cons w ws ih => simpa [List.range_succ_eq_map, List.filterMap_map, Function.comp_def] using ih

section FiniteRuns

variable {ws : List OpWord} {run : Nat → State} {t : State}

/-- After the last word of a finite run its state stays. -/
theorem Follows.eq_final (h : Follows (scheduleOf ws) run) (ht : Machine.runWords ws (run 0) = .next t) {n : Nat}
    (hn : ws.length ≤ n) : run n = t := by
  induction n, hn using Nat.le_induction with
  | base =>
    have hrun := h.runWords ws.length
    rw [wordsBefore_scheduleOf, ht] at hrun
    cases hrun
    rfl
  | succ n hn ih => rw [h.idle (List.getElem?_eq_none hn), ih]

/-- A finite run is fair exactly when each channel is idle at its end (60_exceptions.md R259). -/
theorem Follows.fair_iff (h : Follows (scheduleOf ws) run) (ht : Machine.runWords ws (run 0) = .next t) :
    Fair (scheduleOf ws) run ↔ ∀ c, (channel t c).busy = false := by
  constructor
  · intro hfair c
    by_contra hbusy
    obtain ⟨m, hm, hstep | hidle⟩ :=
      hfair c ws.length (by rw [h.eq_final ht le_rfl]; exact Bool.eq_true_of_not_eq_false hbusy)
    · cases hstep.symm.trans (List.getElem?_eq_none hm)
    · rw [h.eq_final ht hm] at hidle
      exact hbusy hidle
  · intro hidle c n _
    refine ⟨max n ws.length, le_max_left .., .inr ?_⟩
    rw [h.eq_final ht (le_max_right ..)]
    exact hidle c

end FiniteRuns

/-- Settles O49: with 49 − POS line writes before the last, a fair run brings the word to its end; a finite run stays at
its final state; and the steps one after the other are `runOps_txsteps_to_end`. -/
theorem aStartedWordEndsWithinFiftySteps : Obligations.AStartedWordEndsWithinFiftySteps := by
  refine ⟨fun schedule run c n h hfair hs hbusy hp => ?_, fun ws run t h ht => ?_, fun s c hs hbusy hp => ?_⟩
  · rw [show 50 - (channel (run n) c).pos.toNat = 49 - (channel (run n) c).pos.toNat + 1 by omega]
    exact h.wordEnds_of_fair hfair hbusy (by omega) hs rfl
  · rw [h.fair_iff ht]
    exact ⟨fun hidle => ⟨hidle .display, hidle .cv⟩, fun ⟨h0, h1⟩ c => by cases c <;> assumption⟩
  · obtain ⟨e, hrun, he⟩ := runOps_txsteps_to_end hs c (n := 49 - (channel s c).pos.toNat) hbusy (by omega)
    rw [setChannel_channel] at hrun
    rw [show 50 - (channel s c).pos.toNat = 49 - (channel s c).pos.toNat + 1 by omega]
    exact ⟨_, e, hrun, rfl, he⟩

end Sys2Proof.Machine

/-! Reset and runs (70_reset_and_hazards.md): a step and a run of the machine (R292), the core before the first RESET
(R281), and the reset values (R280, R282). -/

namespace Sys2Proof.Machine

/-! ### Steps and runs of the machine -/

/-- A word that spells an operation is carried out as that operation. -/
theorem runWord_of_operation {w : OpWord} {i : Instr} (h : decode w = .operation i) (s : State) :
    runWord w s = exec i s := by
  simp [runWord, h]

/-- A step takes the next word and carries it out on the words after it. -/
theorem step_of_input {s : State} {w : OpWord} {ws : List OpWord} (h : s.input = w :: ws) :
    step s = runWord w { s with input := ws } := by
  simp [step, takeWord, h]

/-- Carrying out a word neither reads nor changes the words still to be taken. -/
theorem runWord_withInput (w : OpWord) (s : State) (l : List OpWord) :
    runWord w { s with input := l } = andThen (runWord w s) fun t => .next { t with input := l } := by
  cases hd : decode w with
  | operation i => rw [runWord_of_operation hd, runWord_of_operation hd, exec_withInput]
  | refused why => rw [runWord_of_refused hd, runWord_of_refused hd, andThen]

/-- A word that has a step leaves the words still to be taken. -/
theorem runWord_input {w : OpWord} {s t : State} (h : runWord w s = .next t) : t.input = s.input := by
  obtain ⟨i, -, he⟩ := runWord_next h
  obtain ⟨-, heff⟩ := exec_next he
  obtain ⟨-, hinput⟩ := heff.cfg_input
  exact hinput

/-- A first word and those after it, carried out on other words still to be taken. -/
theorem runWords_cons_withInput (w : OpWord) (ws : List OpWord) (s : State) (l : List OpWord) :
    runWords (w :: ws) { s with input := l } = andThen (runWord w s) fun t => runWords ws { t with input := l } := by
  rw [runWords, runWord_withInput]
  cases runWord w s <;> rfl

/-- What comes after a result is only carried out on the state it leaves. -/
theorem andThen_congr {r : Result} {k m : State → Result} (h : ∀ t, r = .next t → k t = m t) :
    andThen r k = andThen r m := by
  cases r with
  | next t => exact h t rfl
  | fault f | refused e => rfl

/-- A run of k + 1 steps is a step and a run of k. -/
theorem run_succ (k : Nat) (s : core.State) :
    Host.Core.run core (k + 1) s = andThen (step s) (Host.Core.run core k) := by
  rw [Host.Core.run]
  change _ = andThen (core.step s) _
  cases core.step s <;> rfl

/-- A run of k + 1 steps carries out the next word and then runs for k steps. -/
theorem run_of_input {s : State} {w : OpWord} {ws : List OpWord} (h : s.input = w :: ws) (k : Nat) :
    Host.Core.run core (k + 1) s = andThen (runWord w { s with input := ws }) (Host.Core.run core k) := by
  rw [← step_of_input h]
  exact run_succ k s

/-- Settles O6: the step carries out the word, and the word spells the operation. -/
theorem stepRunsTheNextOperation : Obligations.StepRunsTheNextOperation := fun _ _ _ _ hinput hd =>
  (step_of_input hinput).trans (runWord_of_operation hd _)

/-- Settles O8, by induction on the words: the first step carries out the first word with more words still to be taken,
which no word's effect depends on, and leaves the others for the run. -/
theorem machineRunIsTheWordSequence : Obligations.MachineRunIsTheWordSequence := by
  intro ws rest s hinput
  induction ws generalizing s with
  | nil =>
    obtain rfl : s.input = rest := hinput
    rfl
  | cons w ws ih =>
    refine (run_of_input (ws := ws ++ rest) hinput ws.length).trans ?_
    rw [runWords_cons_withInput w ws { s with input := ws ++ rest } rest]
    exact andThen_congr fun t ht => ih t (runWord_input ht)

/-! ### Before and after the first RESET -/

/-- Settles O10: before the first RESET an operation raises NO_RESET alone; RESET sets RESET_SEEN, and every effect
leaves a ready core ready. -/
theorem nothingButResetBeforeTheFirstReset : Obligations.NothingButResetBeforeTheFirstReset := by
  refine ⟨fun i s hl hr hi => ?_, fun c ws => ⟨rfl, rfl⟩, fun ab s hl => ⟨_, exec_reset hl ab, rfl⟩,
    fun i s t h hr => ?_⟩
  · rw [exec_before hl hr hi, raiseFault_eq]
  · obtain ⟨hl, heff⟩ := exec_next h
    obtain ⟨-, hseen⟩ := heff.ready ⟨hl, hr⟩
    exact hseen

/-- The word of RESET has the pins in its low bits and KIND 6 above (30_encoding.md R87). -/
theorem decode_resetBits (ab : Pins) : decode (0x6#4 ++ 0#18 ++ ab) = .operation (.reset ab) := by
  revert ab; decide

/-- A RESET at the start of a run leaves the state after reset. -/
theorem exec_reset_startOfRun {c : Config} (hl : legalConfig c = true) (ab : Pins) :
    exec (.reset ab) (State.startOfRun c []) = .next (State.afterReset c ab) :=
  exec_reset (s := State.startOfRun c []) hl ab

/-- Settles O51: RESET writes `resetCore`, and the examples' reads are those of the state after reset. -/
theorem resetGivesTheResetValues : Obligations.ResetGivesTheResetValues := by
  refine ⟨fun s ab hl => exec_reset hl ab, decode_resetBits, fun c hl hmode hboundary hhz => ?_⟩
  have hs (ab : Pins) : Ready (State.afterReset c ab) := ⟨hl, rfl⟩
  constructor
  · have hstatus : statusWord (State.afterReset c 0b00#2) = 0x0000#16 := statusWord_afterReset hmode hboundary .none
    have hperiod : BitVec.ofNat 16 (period c 120) = 0x1458#16 := by simp [period, subpulsesPerBeat, hhz]
    have hlines := linesWord_afterReset c 0b00#2
    refine ⟨_, runWords_cons (by decide) (exec_reset_startOfRun hl 0b00#2)
      (runWords_cons (by decide) (exec_rdStatus (hs 0b00#2)) (runWords_cons (by decide) (exec_rdTempo (hs 0b00#2))
      (runWords_cons (by decide) (exec_rdPeriod (hs 0b00#2)) (runWords_cons (by decide) (exec_rdLines (hs 0b00#2)) rfl)))), ?_⟩
    rw [← hstatus, ← hperiod, ← hlines]
    rfl
  · have hstatus : statusWord (State.afterReset c 0b01#2) = 0x00E0#16 := by
      simp only [statusWord, State.afterReset, hmode, hboundary]
      decide
    exact ⟨_, runWords_cons (by decide) (exec_reset_startOfRun hl 0b01#2)
      (runWords_cons (by decide) (exec_rdStatus (hs 0b01#2)) rfl), congrArg (fun x => [x]) hstatus⟩

end Sys2Proof.Machine

/-! What follows from the rules of several parts together: sample words and the stops of a step (30_encoding.md R88,
70_reset_and_hazards.md R292), what the agents leave alone (40_bitserial.md R119, 60_exceptions.md R257), the cycles of
the encoder (41_decoder.md R148), runs with a constant and with a rising tempo (42_tempo.md R178, 43_pulse_engine.md
R203), and the state after a reset (10_state.md R53). -/

namespace Sys2Proof.Machine

/-! ### Runs of operations -/

/-- A run whose first operation has a step is the run of the others from there. -/
theorem runOps_cons {i : Instr} {s t : State} (h : exec i s = .next t) (is : List Instr) :
    runOps (i :: is) s = runOps is t := by
  rw [runOps, h, andThen]

/-- Operations carried out in two parts. -/
theorem runOps_append {is : List Instr} {s t : State} (h : runOps is s = .next t) (js : List Instr) :
    runOps (is ++ js) s = runOps js t := by
  rw [← runWords_map_encode, List.map_append, runWords_append, runWords_map_encode, h]
  exact runWords_map_encode js t

/-! ### Words and steps -/

/-- Settles O1: each word is decoded, and each refused word meets a condition of R88. -/
theorem sampleWordsDecode : Obligations.SampleWordsDecode := by
  refine ⟨by decide, by decide, by decide, by decide, by decide, by decide, by decide, by decide, by decide,
    List.forall_iff_forall_mem.1 ?_⟩
  simp only [refused_iff_breaksFormat, BreaksFormat]
  decide

/-- Settles O7: a step without a word, and the two kinds of word that have no step. -/
theorem stepStopsWithoutAnOperation : Obligations.StepStopsWithoutAnOperation := by
  refine ⟨fun s hinput => by simp [step, takeWord, hinput], fun s w ws why hinput hd => ?_,
    fun c s ws hs hidle hinput => ?_⟩
  · rw [step_of_input hinput, runWord_of_refused hd]
  · have hs' : Ready { s with input := ws } := hs
    rw [step_of_input hinput, runWord_of_operation (decodeOfEncodeIsTheOperation _)]
    exact exec_txstep_idle hs' (by cases c <;> exact hidle)

/-! ### What the agents leave alone -/

/-- Settles O50: of the effects an operation can have on a channel, the start write and the line write are excluded. -/
theorem otherOperationsLeaveAChannelAlone : Obligations.OtherOperationsLeaveAChannelAlone := by
  intro i c s t h hstep hstart hreset
  obtain ⟨-, heff⟩ := exec_next h
  exact heff.channel_eq hreset c hstart hstep

/-- A timer event neither reads nor writes the decoder's elements (60_exceptions.md R257). -/
theorem timerEvent_withDecoder (s : State) (p : Pins) (track : Track) (d : Direction) :
    timerEvent { s with decPrev := p, decTrack := track, dir := d }
      = { timerEvent s with decPrev := p, decTrack := track, dir := d } := by
  simp only [timerEvent_eq, afterSubpulse,
    apply_ite (fun t : State => { t with decPrev := p, decTrack := track, dir := d })]

/-- A pin event reads and writes the decoder's elements alone: on a state that agrees with s on them it writes what it
writes on s (41_decoder.md R141). -/
theorem pinChange_of_decoder_eq (cur : Pins) {s u : State} (hprev : u.decPrev = s.decPrev)
    (htrack : u.decTrack = s.decTrack) (hdir : u.dir = s.dir) :
    pinChange cur u
      = { u with decPrev := cur, decTrack := (pinChange cur s).decTrack, dir := (pinChange cur s).dir } := by
  simp only [pinChange, hprev, htrack, hdir]
  repeat' split
  all_goals simp [← htrack, ← hdir]

/-- A pin event commutes with a timer event, which leaves the decoder's elements (60_exceptions.md R257). -/
theorem pinChange_timerEvent (cur : Pins) (s : State) :
    pinChange cur (timerEvent s) = timerEvent (pinChange cur s) := by
  rw [pinChange_of_decoder_eq cur (timerEvent_decPrev s) (timerEvent_decTrack s) (timerEvent_dir s),
    ← timerEvent_withDecoder, ← pinChange_of_decoder_eq cur rfl rfl rfl]

/-- A line write of a channel does not depend on what the other channel holds (40_bitserial.md R119). -/
theorem exec_txstep_otherChannel {s : State} (hs : Ready s) {b c : ChannelId} {ch : Channel} (hne : c ≠ b)
    (hbusy : (channel s c).busy = true) : exec (.txstep c) (setChannel b ch s)
      = .next (setChannel c (lineWrite (channel s c)) (setChannel b ch s)) := by
  have hch : channel (setChannel b ch s) c = channel s c := (channel_setChannel ..).trans (if_neg hne)
  rw [exec_txstep (ready_setChannel hs b ch) (by rwa [hch]), hch]

/-- Settles O59: TICK and PINS by `pinChange_timerEvent`; a line write changes its own channel alone, so each of two
channels is still busy after the other's. -/
theorem independentAgentsCommute : Obligations.IndependentAgentsCommute := by
  refine ⟨fun s cur hs => ?_, fun s hs h0 h1 => ?_⟩
  · have htick : Ready (timerEvent s) := ready_timerEvent_iterate hs 1
    rw [runOps_cons (exec_tick hs), runOps_cons (exec_pins htick cur), runOps_cons (exec_pins hs cur),
      runOps_cons (exec_tick (ready_pinChange hs cur)), pinChange_timerEvent]
  · rw [runOps_cons (exec_txstep hs (c := .display) h0), runOps_cons (exec_txstep hs (c := .cv) h1),
      runOps_cons (exec_txstep_otherChannel hs (b := .display) (c := .cv) (by decide) h1),
      runOps_cons (exec_txstep_otherChannel hs (b := .cv) (c := .display) (by decide) h0)]
    rfl

/-! ### Cycles of the encoder -/

/-- Leaving rest tracks LEFT exactly when A changed alone, and RIGHT exactly when B did (41_decoder.md R142). -/
theorem leaveRest_iff {m : Pins} (h0 : m ≠ 0b00#2) :
    (leaveRest m = .trackL ↔ m = 0b10#2) ∧ (leaveRest m = .trackR ↔ m = 0b01#2) := by
  revert m; decide

/-- Away from rest an event without a change is no case of its own (41_decoder.md R143, R145). -/
theorem pinChange_tracking {s : State} {cur : Pins} (htrack : s.decTrack ≠ .idle) (hcur : cur ≠ 0b00#2) :
    pinChange cur s = { s with decPrev := cur, decTrack := abortOnTwoBits (cur ^^^ s.decPrev) s.decTrack } := by
  by_cases hsame : cur = s.decPrev
  · subst hsame
    simp [pinChange_same, abortOnTwoBits]
  · exact pinChange_awayFromRest hsame htrack hcur

/-- The tracking state after events that stay away from rest, from the pins p on: a change of two bits at once, and
nothing else, turns it into TRACK_X (41_decoder.md R143, R145). -/
def trackAfter (p : Pins) (evs : List Pins) (track : Track) : Track :=
  if singleBitChanges p evs then track else .trackX

theorem trackAfter_cons (p q : Pins) (evs : List Pins) (track : Track) :
    trackAfter q evs (abortOnTwoBits (q ^^^ p) track) = trackAfter p (q :: evs) track := by
  by_cases hmask : q ^^^ p = 0b11#2 <;> simp [trackAfter, singleBitChanges, transitionMask, abortOnTwoBits, hmask]

/-- Events that stay away from rest, however many, only move the pins and keep or abort the tracked rotation. -/
theorem foldl_pinChange_tracking {s : State} {evs : List Pins} (htrack : s.decTrack ≠ .idle)
    (hevs : ∀ p ∈ evs, p ≠ 0b00#2) : evs.foldl (fun t cur => pinChange cur t) s
      = { s with decPrev := evs.getLastD s.decPrev, decTrack := trackAfter s.decPrev evs s.decTrack } := by
  induction evs generalizing s with
  | nil => rfl
  | cons q evs ih =>
    obtain ⟨hq, hevs⟩ := List.forall_mem_cons.1 hevs
    have htrack' : abortOnTwoBits (q ^^^ s.decPrev) s.decTrack ≠ .idle := by
      unfold abortOnTwoBits
      split
      · decide
      · exact htrack
    rw [List.foldl_cons, pinChange_tracking htrack hq, ih htrack' hevs]
    simp only [trackAfter_cons, List.getLastD_cons]

/-- Whether each change up to a last event is of one bit. -/
theorem singleBitChanges_concat (p q : Pins) (evs : List Pins) :
    singleBitChanges p (evs ++ [q]) = (singleBitChanges p evs && transitionMask q (evs.getLastD p) != 0b11#2) := by
  induction evs generalizing p with
  | nil => simp [singleBitChanges]
  | cons r evs ih => simp only [List.cons_append, singleBitChanges, ih, List.getLastD_cons, Bool.and_assoc]

/-- A cycle from rest to rest commits by the tracking state that its first event starts and the others leave, and by
its last pins; nothing but DIR differs after it (41_decoder.md R142 to R144). -/
theorem runOps_cycle {s : State} (hs : Ready s) (hidle : s.decTrack = .idle) (hprev : s.decPrev = 0b00#2) {p : Pins}
    {evs : List Pins} (hevs : ∀ q ∈ p :: evs, q ≠ 0b00#2) :
    runOps (pinEvents (p :: evs ++ [0b00#2])) s = .next { s with
      dir := if trackAfter p evs (leaveRest p) = .trackL ∧ evs.getLastD p = 0b01#2 then .left
        else if trackAfter p evs (leaveRest p) = .trackR ∧ evs.getLastD p = 0b10#2 then .right else s.dir } := by
  obtain ⟨hp, hevs'⟩ := List.forall_mem_cons.1 hevs
  obtain ⟨htrack, -⟩ := leaveRest_spec p
  have hlast : evs.getLastD p ≠ 0b00#2 := hevs _ List.getLastD_mem_cons
  have htrack' : trackAfter p evs (leaveRest p) ≠ .idle := by
    unfold trackAfter
    split
    · exact htrack
    · decide
  rw [runOps_pinEvents hs, List.foldl_append, List.foldl_cons, List.foldl_cons, pinChange_fromRest hp hidle hprev,
    foldl_pinChange_tracking htrack hevs', List.foldl_nil, pinChange_returnToRest hlast htrack']
  simp only [← hidle, ← hprev]

/-- A cycle that leaves rest by the pins p has single-bit changes alone exactly when it neither leaves nor reaches rest
by both bits at once, and none between is of both. -/
theorem singleBitChanges_cycle (p : Pins) (evs : List Pins) :
    singleBitChanges 0b00#2 (p :: evs ++ [0b00#2]) = true
      ↔ p ≠ 0b11#2 ∧ singleBitChanges p evs = true ∧ evs.getLastD p ≠ 0b11#2 := by
  rw [List.cons_append, singleBitChanges, singleBitChanges_concat]
  simp [transitionMask]

/-- Settles O44: without a change of two bits the tracking state names the first change; with one, it is TRACK_X or the
last change is of both bits. -/
theorem restToRestCyclesCommitByFirstAndLastChange : Obligations.RestToRestCyclesCommitByFirstAndLastChange := by
  intro s evs hs hidle hprev hne hevs
  obtain ⟨p, evs, rfl⟩ := List.exists_cons_of_ne_nil hne
  obtain ⟨hleft, hright⟩ := leaveRest_iff (hevs p List.mem_cons_self)
  rw [runOps_cycle hs hidle hprev hevs, ← Bool.not_eq_true, singleBitChanges_cycle]
  refine ⟨fun hsingle => ?_, fun htwo => ?_⟩
  · obtain ⟨-, hbetween, -⟩ := hsingle
    simp [trackAfter, hbetween, hleft, hright, List.getLast?_cons, List.getLastD_eq_getLast?]
  · have habort : trackAfter p evs (leaveRest p) = .trackX ∨ evs.getLastD p = 0b11#2 := by
      by_cases hbetween : singleBitChanges p evs = true
      · by_cases hfirst : p = 0b11#2
        · exact .inl (by simp [trackAfter, hfirst, leaveRest])
        · exact .inr (by_contra fun hlast => htwo ⟨hfirst, hbetween, hlast⟩)
      · exact .inl (if_neg hbetween)
    obtain habort | habort := habort
    · rw [habort]; simp
    · rw [habort]; simp

/-- Two reads of DIR return its code and then NONE (41_decoder.md R146). -/
theorem runWords_rdDir_twice {s : State} (hs : Ready s) : runWords [encode .rdDir, encode .rdDir] s
    = .next { s with dir := .none, returned := s.returned ++ [zext16 (dirCode s.dir), 0x0000#16] } := by
  have hs' : Ready (busReturn (zext16 (dirCode s.dir)) { s with dir := .none }) := hs
  refine runWords_cons (by decide) (exec_rdDir hs) (runWords_cons (by decide) (exec_rdDir hs') ?_)
  simp [runWords, busReturn, zext16, dirCode]

/-- Settles O43: the clean rotations set DIR to LEFT and RIGHT; of the aborted cycles each has single-bit changes alone
and is of neither kind of `restToRestCyclesCommitByFirstAndLastChange`. -/
theorem cleanAndAbortedRotations : Obligations.CleanAndAbortedRotations := by
  intro s hs hidle hprev hdir
  have hclear (l : List Word) : ({ s with dir := .none, returned := l } : State) = { s with returned := l } := by
    rw [← hdir]
  refine ⟨?_, ?_, fun evs hevs => ?_⟩
  · rw [runWords_rotL hs hidle hprev]
    exact (runWords_rdDir_twice (s := { s with dir := .left }) hs).trans (congrArg _ (hclear _))
  · rw [runWords_rotR hs hidle hprev]
    exact (runWords_rdDir_twice (s := { s with dir := .right }) hs).trans (congrArg _ (hclear _))
  · have hcycle : runOps (pinEvents evs) s = .next s := by
      have haborted (body : List Pins) := restToRestCyclesCommitByFirstAndLastChange s body hs hidle hprev
      simp only [List.mem_cons, List.not_mem_nil, or_false] at hevs
      obtain rfl | rfl | rfl := hevs
      · exact (haborted [0b10#2] (by decide) (by decide)).1 (by decide)
      · exact (haborted [0b01#2] (by decide) (by decide)).1 (by decide)
      · exact (haborted [0b10#2, 0b11#2, 0b10#2] (by decide) (by decide)).1 (by decide)
    have hcode : zext16 (dirCode s.dir) = 0x0000#16 := by rw [hdir]; rfl
    rw [runOps_append hcycle, runOps_cons (exec_rdDir hs), hcode]
    exact congrArg _ (hclear _)

/-! ### The tempo over time -/

/-- Settles O34: below P(TEMPO) the TICKs only count; the P(TEMPO)-th is a sub-pulse, which reaches the threshold
exactly. -/
theorem oneSubpulseEveryPeriodTicks : Obligations.OneSubpulseEveryPeriodTicks := by
  intro s hs hmode hacc hmin hmax
  obtain ⟨hone, hfits⟩ := period_bounds hs.1 hmin hmax
  refine ⟨fun n hn => ?_, afterSubpulse s 0#16, ?_, afterSubpulse_acc s _, afterSubpulse_midiPend s _⟩
  · rw [runOps_ticks hs, timerEvent_iterate_belowPeriod hmode hacc hfits hn]
  · rw [runOps_ticks hs, timerEvent_iterate_period hmode hacc hone hfits]

/-- n WR.APPLY LEFT raise TEMPO by n, while TEMPO_MAX allows it (42_tempo.md R172). -/
theorem runOps_wrApply_left {s : State} (hs : Ready s) {n : Nat} (hmax : s.tempo.toNat + n ≤ s.cfg.tempoMax) :
    runOps (List.replicate n (.wrApply 0x0001#16)) s = .next { s with tempo := s.tempo + BitVec.ofNat 16 n } := by
  induction n generalizing s with
  | zero => simp [runOps]
  | succ n ih =>
    have hleft : applyTempo .left s = { s with tempo := s.tempo + 1#16 } := by
      rw [applyTempo, tempoAfter, tempoStep, min_eq_left (by omega), ofNat_toNat_succ]
    have hnext : (s.tempo + 1#16).toNat = s.tempo.toNat + 1 := by
      obtain ⟨⟨-, -, -, hfits⟩, -⟩ := (legalConfig_iff s.cfg).1 hs.1
      rw [BitVec.toNat_add, BitVec.toNat_ofNat]
      omega
    have hs' : Ready { s with tempo := s.tempo + 1#16 } := hs
    rw [List.replicate_succ, runOps_cons ((exec_wrApply hs (dir := .left) (by decide)).trans (congrArg _ hleft)),
      ih hs' (by simp only [hnext]; omega)]
    simp only [BitVec.add_assoc, Nat.add_comm n 1, BitVec.ofNat_add]

/-- Settles O32: the bounds on TIMER_HZ are those of `legalConfig_iff` solved for it, six LEFT raise TEMPO by six, and
RD.PERIOD returns P(TEMPO), which `rdPeriodReturnsThePeriod` bounds below. -/
theorem tempoFiguresOfTheSpec : Obligations.TempoFiguresOfTheSpec := by
  refine ⟨fun c hmin hmax hboundary => ?_, fun c hhz => ?_, fun s hs htempo hmax hhz => ?_,
    fun s hs hmin hmax h20 h300 => ?_⟩
  · have hmeasure : legalMeasure c = true := (legalMeasure_iff c).2 (by simp [hboundary])
    rw [legalConfig_iff, hmin, hmax]
    simp only [hmeasure, period, tempoReset, subpulsesPerBeat, and_true]
    omega
  · simp [period, hhz, subpulsesPerBeat]
  · have hread : exec .rdPeriod s = .next (busReturn 5208#16 s) := by
      rw [exec_rdPeriod hs, htempo]
      simp [period, hhz, subpulsesPerBeat]
    have hleft : runOps (List.replicate 6 (.wrApply 0x0001#16)) (busReturn 5208#16 s)
        = .next { s with tempo := 126#16, returned := s.returned ++ [5208#16] } := by
      rw [runOps_wrApply_left (s := busReturn 5208#16 s) hs (by simpa [htempo] using hmax), busReturn_tempo, htempo]
      rfl
    have hread' : exec .rdPeriod { s with tempo := 126#16, returned := s.returned ++ [5208#16] }
        = .next { s with tempo := 126#16, returned := s.returned ++ [5208#16, 4960#16] } := by
      have hs' : Ready { s with tempo := 126#16, returned := s.returned ++ [5208#16] } := hs
      rw [exec_rdPeriod hs']
      simp [busReturn, period, hhz, subpulsesPerBeat]
    rw [List.append_assoc, List.singleton_append, runOps_cons hread, runOps_append hleft, runOps_cons hread']
    rfl
  · obtain ⟨-, hreads, -⟩ := rdPeriodReturnsThePeriod
    obtain ⟨x, hread, hx, hone⟩ := hreads s hs (hmin.trans_le h20) (h300.trans_eq hmax.symm)
    exact ⟨x, hread, hx, hone, Nat.le_of_lt_succ x.isLt⟩

/-! ### The state after a reset -/

/-- Settles O52: the word spells a RESET, and `State.reset` is the case of the standard parameters. -/
theorem stateResetIsTheStateAfterReset : Obligations.StateResetIsTheStateAfterReset :=
  ⟨fun _ ab hl => runWords_cons (decode_resetBits ab) (exec_reset_startOfRun hl ab) rfl,
    runWords_cons (by decide) (exec_reset_startOfRun (by decide) 0b00#2) rfl⟩

/-- The state after a reset meets the invariant, with every legal parameter set and pin pair. -/
theorem stateInv_afterReset {c : Config} (hl : legalConfig c = true) (ab : Pins) : StateInv (State.afterReset c ab) :=
  stateInv_resetCore (s := State.startOfRun c []) hl ab

/-- Settles O53: after a reset both channels are `idleChannel`. -/
theorem invariantsHoldAfterReset : Obligations.InvariantsHoldAfterReset := fun _ ab hl =>
  ⟨stateInv_afterReset hl ab, waveformInv_idleChannel, waveformInv_idleChannel,
    stateInv_afterReset (by decide) 0b00#2⟩

end Sys2Proof.Machine
